-- ==== Sys2Proof/Word.lean ====
section
/-!
DEFINITION. The word types of the core: registers are 8 bits, DMA addresses and counts 16 bits
(spec/00_scope.md R8, last paragraph).
-/

namespace Sys2Proof

/-- An 8-bit register, or one byte of packet memory. -/
abbrev Byte := BitVec 8

/-- A 16-bit quantity: a chip address, a DMA cursor, a byte count. -/
abbrev Word := BitVec 16

end Sys2Proof
end

