-- ==== Sys2Proof/Config.lean ====
section
/-!
DEFINITION. The implementation parameters of spec/00_scope.md R8 as one record of plain data, their validity as a
precondition of the configuration type (spec/60_exceptions.md R356), the configuration `State.reset` is attached with, and
the free values (constants with no body).
-/

namespace Sys2Proof

/-- `RXHDR_ORDER` (R8, R114, 90_conflicts C3): the order of the first two bytes of the receive header. -/
inductive RxHdrOrder where
  | statusFirst
  | nextFirst
  deriving DecidableEq, Repr

/-- `SEND_MODE` (R8, R305): what the model does with the remote-DMA command `send`. -/
inductive SendMode where
  | inert
  | refuse
  deriving DecidableEq, Repr

/-- `McHash` (R8, R234): the hash function of R234, or a function nothing is known of. -/
inductive HashChoice where
  | crc
  | free
  deriving DecidableEq, Repr

/-- The parameters of R8, as an adapter proposes them. `MEM_END` is derived (`Params.memEnd`). -/
structure Params where
  /-- `MEM_SIZE`, bytes -/
  memSize : Nat
  /-- `MEM_START`, the chip address of byte 0 of the array -/
  memStart : Word
  /-- `MEM_WRAP`, the modulus applied to a chip address; 0 means no wrapping -/
  memWrap : Nat
  /-- `SINK_BYTE`, what an out-of-range read returns -/
  sinkByte : Byte
  /-- `ID0` (R43) -/
  id0 : Byte
  /-- `ID1` (R43) -/
  id1 : Byte
  /-- `MAC_CFG`, the configured station address -/
  macCfg : Vector Byte 6
  /-- `EVEN_MAC`, the MAC-address duplication flag -/
  evenMac : Bool
  /-- `ROM_FILL`, the filler of the ROM image -/
  romFill : Byte
  /-- `TX_LATENCY`, which no rule reads (R278) -/
  txLatency : Nat
  /-- `RUNT_MIN`, bytes -/
  runtMin : Nat
  /-- `POWERUP_STOP` -/
  powerupStop : Bool
  /-- `RXHDR_ORDER` -/
  rxhdrOrder : RxHdrOrder
  /-- `SEND_MODE` -/
  sendMode : SendMode
  /-- `McHash` -/
  mcHash : HashChoice
  deriving DecidableEq, Repr

/-- `MEM_END = MEM_START + MEM_SIZE` (R8), a 17-bit natural. -/
def Params.memEnd (p : Params) : Nat := p.memStart.toNat + p.memSize

/-- The validity conditions of R8. -/
def Params.valid (p : Params) : Bool :=
  (p.memSize == 8192 || p.memSize == 32768) && decide (p.memEnd ≤ 65536) && decide (p.memWrap ≤ 65536) &&
    decide (0 < p.txLatency)

/-- A configuration: parameters that meet the validity conditions of R8. An invalid one is no value of this type, so no
instance has it (R356). No operation changes a configuration. -/
structure Config extends Params where
  /-- the precondition of R356 -/
  isValid : toParams.valid = true
  deriving DecidableEq, Repr

/-- DESIGN CHOICE (log 4): the configuration `State.reset` is attached with, configuration A of 95_test_vectors.md
part 0 with `SEND_MODE = inert` (log 6). No meaning reads this definition. Unsafe only for a claim about
`State.reset` itself. -/
def Config.initial : Config where
  memSize := 0x2000
  memStart := 0x4000#16
  memWrap := 0x8000
  sinkByte := 0xFF#8
  id0 := 0x50#8
  id1 := 0x70#8
  macCfg := #v[0x00#8, 0x11#8, 0x22#8, 0x33#8, 0x44#8, 0x55#8]
  evenMac := false
  romFill := 0x57#8
  txLatency := 1
  runtMin := 60
  powerupStop := false
  rxhdrOrder := .statusFirst
  sendMode := .inert
  mcHash := .crc
  isValid := by decide

/-- The free values (R10 `draw`; U1, U2, U3): the `n`-th draw of a run. No body: no proof can see a value (log 3). -/
opaque Config.freeValue : Nat → Word

/-- `McHash` left open (R234, D26): a function from the destination address to 0..63 that no proof can see. -/
opaque Config.freeHash : List Byte → BitVec 6

end Sys2Proof
end

