-- ==== Sys2Proof/Syntax.lean ====
section
/-!
DEFINITION. The operations of the core: what an agent presents (`Request`), and `Instr`, one constructor per row of
spec/opcode_table.json. The core has no instructions (R1, R41); a row is an operation of R5, or, for the rows of format
CRVAL, a command carried by a CR write (R101).
-/

namespace Sys2Proof

/-- The width `w` of a host access, 8 or 16 bits (R5, R77). -/
inductive Width where
  | byte
  | word
  deriving DecidableEq, Repr

/-- A value with its width: what a host write carries, or what a host read returns. -/
inductive HostVal where
  | byte (v : Byte)
  | word (v : Word)
  deriving DecidableEq, Repr

/-- The class of a remote-DMA command (R109). -/
inductive RdmaClass where
  | read
  | write
  | send
  | abort
  deriving DecidableEq, Repr

/-- What an agent presents to the core (R5, R100). A register access is the bus tuple `(dir, off, w, v)`; the register
page is no part of it. Offset, width and value are numbers, so that the malformed accesses of U9 can be written down. -/
inductive Request where
  /-- `RegRead(off, w)` -/
  | regRead (off width : Nat)
  /-- `RegWrite(off, w, v)` -/
  | regWrite (off width value : Nat)
  /-- `DataRead(w)` -/
  | dataRead (width : Nat)
  /-- `DataWrite(w, v)` -/
  | dataWrite (width value : Nat)
  /-- `Deliver(frame, length, errs)`; `length` is the length of `frame` (R230) -/
  | deliver (frame : List Byte) (errs : Byte)
  /-- `TxComplete(outcome)` -/
  | txComplete (outcome : Byte)
  /-- `HardReset`, with the memory content the reset leaves (R383: "the model takes the new content as an argument") -/
  | hardReset (content : List Byte)
  /-- a selector with `ext = 1` that R101 gives no operation -/
  | other (sel : Byte)
  deriving DecidableEq, Repr

/-- Why a request is no operation of the core (R7, R116, U9). All are safe: the model stops where the spec gives nothing. -/
inductive Reject where
  /-- raised by the decoder: a width other than 8 or 16 -/
  | badWidth
  /-- raised by the decoder: an offset above 0x0F -/
  | badOffset
  /-- raised by the decoder: a value that does not fit the width of the access -/
  | badValue
  /-- raised by the decoder: a selector that names no operation -/
  | badSelector
  /-- raised by the decoder: `errs` with a bit other than 1, 2, 3 set (R230) -/
  | badVerdict
  /-- raised by the decoder: an `outcome` that is none of the seven TSR flags (R275, R276) -/
  | badOutcome
  /-- raised by the decoder: a memory content longer than the largest packet memory (R8, R383) -/
  | badContent
  deriving DecidableEq, Repr

/-- The operations, one constructor per row of spec/opcode_table.json. -/
inductive Instr where
  -- register reads, page 0 (R103); `w` is the width of the access
  | rdCr (w : Width)
  -- the command-register write (R201)
  | wrCr (v : HostVal)
  | rdP0Clda0 (w : Width)
  | rdP0Clda1 (w : Width)
  | rdP0Bnry (w : Width)
  | rdP0Tsr (w : Width)
  | rdP0Ncr (w : Width)
  | rdP0Fifo (w : Width)
  | rdP0Isr (w : Width)
  | rdP0Crda0 (w : Width)
  | rdP0Crda1 (w : Width)
  | rdP0Id0 (w : Width)
  | rdP0Id1 (w : Width)
  | rdP0Rsr (w : Width)
  | rdP0Cntr0 (w : Width)
  | rdP0Cntr1 (w : Width)
  | rdP0Cntr2 (w : Width)
  -- register writes, page 0 (R104)
  | wrP0Pstart (v : HostVal)
  | wrP0Pstop (v : HostVal)
  | wrP0Bnry (v : HostVal)
  | wrP0Tpsr (v : HostVal)
  | wrP0Tbcr0 (v : HostVal)
  | wrP0Tbcr1 (v : HostVal)
  | wrP0Isr (v : HostVal)
  | wrP0Rsar0 (v : HostVal)
  | wrP0Rsar1 (v : HostVal)
  | wrP0Rbcr0 (v : HostVal)
  | wrP0Rbcr1 (v : HostVal)
  | wrP0Rcr (v : HostVal)
  | wrP0Tcr (v : HostVal)
  | wrP0Dcr (v : HostVal)
  | wrP0Imr (v : HostVal)
  -- register page 1 (R105)
  | rdP1Par0 (w : Width)
  | rdP1Par1 (w : Width)
  | rdP1Par2 (w : Width)
  | rdP1Par3 (w : Width)
  | rdP1Par4 (w : Width)
  | rdP1Par5 (w : Width)
  | wrP1Par0 (v : HostVal)
  | wrP1Par1 (v : HostVal)
  | wrP1Par2 (v : HostVal)
  | wrP1Par3 (v : HostVal)
  | wrP1Par4 (v : HostVal)
  | wrP1Par5 (v : HostVal)
  | rdP1Curr (w : Width)
  | wrP1Curr (v : HostVal)
  | rdP1Mar0 (w : Width)
  | rdP1Mar1 (w : Width)
  | rdP1Mar2 (w : Width)
  | rdP1Mar3 (w : Width)
  | rdP1Mar4 (w : Width)
  | rdP1Mar5 (w : Width)
  | rdP1Mar6 (w : Width)
  | rdP1Mar7 (w : Width)
  | wrP1Mar0 (v : HostVal)
  | wrP1Mar1 (v : HostVal)
  | wrP1Mar2 (v : HostVal)
  | wrP1Mar3 (v : HostVal)
  | wrP1Mar4 (v : HostVal)
  | wrP1Mar5 (v : HostVal)
  | wrP1Mar6 (v : HostVal)
  | wrP1Mar7 (v : HostVal)
  -- register page 2, reads (R106)
  | rdP2Pstart (w : Width)
  | rdP2Pstop (w : Width)
  | rdP2Rnpp (w : Width)
  | rdP2Tpsr (w : Width)
  | rdP2Lnpp (w : Width)
  | rdP2Acu (w : Width)
  | rdP2Acl (w : Width)
  | rdP2Off08 (w : Width)
  | rdP2Off09 (w : Width)
  | rdP2Off0A (w : Width)
  | rdP2Off0B (w : Width)
  | rdP2Rcr (w : Width)
  | rdP2Tcr (w : Width)
  | rdP2Dcr (w : Width)
  | rdP2Imr (w : Width)
  -- register page 2, writes (R106)
  | wrP2Pstart (v : HostVal)
  | wrP2Pstop (v : HostVal)
  | wrP2Rnpp (v : HostVal)
  | wrP2Tpsr (v : HostVal)
  | wrP2Lnpp (v : HostVal)
  | wrP2Acu (v : HostVal)
  | wrP2Acl (v : HostVal)
  | wrP2Off08 (v : HostVal)
  | wrP2Off09 (v : HostVal)
  | wrP2Off0A (v : HostVal)
  | wrP2Off0B (v : HostVal)
  | wrP2Rcr (v : HostVal)
  | wrP2Tcr (v : HostVal)
  | wrP2Dcr (v : HostVal)
  | wrP2Imr (v : HostVal)
  -- register page 3, reads (R107)
  | rdP3Off01 (w : Width)
  | rdP3Off02 (w : Width)
  | rdP3Off03 (w : Width)
  | rdP3Off04 (w : Width)
  | rdP3Off05 (w : Width)
  | rdP3Off06 (w : Width)
  | rdP3Off07 (w : Width)
  | rdP3Off08 (w : Width)
  | rdP3Off09 (w : Width)
  | rdP3Off0A (w : Width)
  | rdP3Off0B (w : Width)
  | rdP3Off0C (w : Width)
  | rdP3Off0D (w : Width)
  | rdP3Off0E (w : Width)
  | rdP3Off0F (w : Width)
  -- register page 3, writes (R107)
  | wrP3Off01 (v : HostVal)
  | wrP3Off02 (v : HostVal)
  | wrP3Off03 (v : HostVal)
  | wrP3Off04 (v : HostVal)
  | wrP3Off05 (v : HostVal)
  | wrP3Off06 (v : HostVal)
  | wrP3Off07 (v : HostVal)
  | wrP3Off08 (v : HostVal)
  | wrP3Off09 (v : HostVal)
  | wrP3Off0A (v : HostVal)
  | wrP3Off0B (v : HostVal)
  | wrP3Off0C (v : HostVal)
  | wrP3Off0D (v : HostVal)
  | wrP3Off0E (v : HostVal)
  | wrP3Off0F (v : HostVal)
  -- the operations with a selector of their own (R101)
  | drd (w : Width)
  | dwr (v : HostVal)
  | rx (frame : List Byte) (errs : Byte)
  | txdone (outcome : Byte)
  | hreset (content : List Byte)
  -- commands carried by a CR write: the operands are the bits of the written value that the row leaves free, high bits first
  | crStop (rest : BitVec 7)
  | crStart (high : BitVec 6) (stop : BitVec 1)
  | crXmit (high : BitVec 5)
  | crRdmaRd (pgsel txpStart : BitVec 2)
  | crRdmaWr (pgsel txpStart : BitVec 2)
  | crRdmaSend (pgsel txpStart : BitVec 2)
  | crRdmaAbort (pgsel cmdLow txpStart : BitVec 2)
  | crRdmaAbort0 (pgsel txpStart : BitVec 2)
  | crPage (pgsel : BitVec 2) (rest : BitVec 6)
  deriving DecidableEq, Repr

end Sys2Proof
end

