-- ==== Sys2Proof/WellFormed.lean ====
section
/-!
DEFINITION. Well-formed operations: the domain of the operands that the types do not already bound.
-/

namespace Sys2Proof

/-- The seven values `outcome` may take (R275, R276): the TSR flags `tx_ok`, `collided`, `aborted`, `no_carrier`,
`fifo_ur`, `cd_hbeat`, `ow_coll`. -/
def txOutcomes : List Byte := [0x01#8, 0x04#8, 0x08#8, 0x10#8, 0x20#8, 0x40#8, 0x80#8]

/-- `errs` of `Deliver`: only bits 1, 2 and 3 (`bad_crc`, `bad_falign`, `fifo_or`) may be set (R230). -/
def verdictOk (errs : Byte) : Bool := errs &&& 0xF1#8 == 0#8

/-- The largest `MEM_SIZE` of R8. -/
def maxMemSize : Nat := 32768

/-- The operands of an operation lie in the domain the spec gives them. -/
def Instr.wellFormed : Instr → Bool
  | .rx _ errs => verdictOk errs
  | .txdone outcome => txOutcomes.contains outcome
  | .hreset content => decide (content.length ≤ maxMemSize)
  | .rdCr _ => true
  | .wrCr _ => true
  | .rdP0Clda0 _ => true
  | .rdP0Clda1 _ => true
  | .rdP0Bnry _ => true
  | .rdP0Tsr _ => true
  | .rdP0Ncr _ => true
  | .rdP0Fifo _ => true
  | .rdP0Isr _ => true
  | .rdP0Crda0 _ => true
  | .rdP0Crda1 _ => true
  | .rdP0Id0 _ => true
  | .rdP0Id1 _ => true
  | .rdP0Rsr _ => true
  | .rdP0Cntr0 _ => true
  | .rdP0Cntr1 _ => true
  | .rdP0Cntr2 _ => true
  | .wrP0Pstart _ => true
  | .wrP0Pstop _ => true
  | .wrP0Bnry _ => true
  | .wrP0Tpsr _ => true
  | .wrP0Tbcr0 _ => true
  | .wrP0Tbcr1 _ => true
  | .wrP0Isr _ => true
  | .wrP0Rsar0 _ => true
  | .wrP0Rsar1 _ => true
  | .wrP0Rbcr0 _ => true
  | .wrP0Rbcr1 _ => true
  | .wrP0Rcr _ => true
  | .wrP0Tcr _ => true
  | .wrP0Dcr _ => true
  | .wrP0Imr _ => true
  | .rdP1Par0 _ => true
  | .rdP1Par1 _ => true
  | .rdP1Par2 _ => true
  | .rdP1Par3 _ => true
  | .rdP1Par4 _ => true
  | .rdP1Par5 _ => true
  | .wrP1Par0 _ => true
  | .wrP1Par1 _ => true
  | .wrP1Par2 _ => true
  | .wrP1Par3 _ => true
  | .wrP1Par4 _ => true
  | .wrP1Par5 _ => true
  | .rdP1Curr _ => true
  | .wrP1Curr _ => true
  | .rdP1Mar0 _ => true
  | .rdP1Mar1 _ => true
  | .rdP1Mar2 _ => true
  | .rdP1Mar3 _ => true
  | .rdP1Mar4 _ => true
  | .rdP1Mar5 _ => true
  | .rdP1Mar6 _ => true
  | .rdP1Mar7 _ => true
  | .wrP1Mar0 _ => true
  | .wrP1Mar1 _ => true
  | .wrP1Mar2 _ => true
  | .wrP1Mar3 _ => true
  | .wrP1Mar4 _ => true
  | .wrP1Mar5 _ => true
  | .wrP1Mar6 _ => true
  | .wrP1Mar7 _ => true
  | .rdP2Pstart _ => true
  | .rdP2Pstop _ => true
  | .rdP2Rnpp _ => true
  | .rdP2Tpsr _ => true
  | .rdP2Lnpp _ => true
  | .rdP2Acu _ => true
  | .rdP2Acl _ => true
  | .rdP2Off08 _ => true
  | .rdP2Off09 _ => true
  | .rdP2Off0A _ => true
  | .rdP2Off0B _ => true
  | .rdP2Rcr _ => true
  | .rdP2Tcr _ => true
  | .rdP2Dcr _ => true
  | .rdP2Imr _ => true
  | .wrP2Pstart _ => true
  | .wrP2Pstop _ => true
  | .wrP2Rnpp _ => true
  | .wrP2Tpsr _ => true
  | .wrP2Lnpp _ => true
  | .wrP2Acu _ => true
  | .wrP2Acl _ => true
  | .wrP2Off08 _ => true
  | .wrP2Off09 _ => true
  | .wrP2Off0A _ => true
  | .wrP2Off0B _ => true
  | .wrP2Rcr _ => true
  | .wrP2Tcr _ => true
  | .wrP2Dcr _ => true
  | .wrP2Imr _ => true
  | .rdP3Off01 _ => true
  | .rdP3Off02 _ => true
  | .rdP3Off03 _ => true
  | .rdP3Off04 _ => true
  | .rdP3Off05 _ => true
  | .rdP3Off06 _ => true
  | .rdP3Off07 _ => true
  | .rdP3Off08 _ => true
  | .rdP3Off09 _ => true
  | .rdP3Off0A _ => true
  | .rdP3Off0B _ => true
  | .rdP3Off0C _ => true
  | .rdP3Off0D _ => true
  | .rdP3Off0E _ => true
  | .rdP3Off0F _ => true
  | .wrP3Off01 _ => true
  | .wrP3Off02 _ => true
  | .wrP3Off03 _ => true
  | .wrP3Off04 _ => true
  | .wrP3Off05 _ => true
  | .wrP3Off06 _ => true
  | .wrP3Off07 _ => true
  | .wrP3Off08 _ => true
  | .wrP3Off09 _ => true
  | .wrP3Off0A _ => true
  | .wrP3Off0B _ => true
  | .wrP3Off0C _ => true
  | .wrP3Off0D _ => true
  | .wrP3Off0E _ => true
  | .wrP3Off0F _ => true
  | .drd _ => true
  | .dwr _ => true
  | .crStop _ => true
  | .crStart _ _ => true
  | .crXmit _ => true
  | .crRdmaRd _ _ => true
  | .crRdmaWr _ _ => true
  | .crRdmaSend _ _ => true
  | .crRdmaAbort _ _ _ => true
  | .crRdmaAbort0 _ _ => true
  | .crPage _ _ => true

end Sys2Proof
end

