-- ==== Sys2Proof/Decode.lean ====
section
/-!
DEFINITION. Page decode, decoder and encoder (spec/30_encoding.md). A register access is decoded from
`(CR.pgsel, off, dir)` alone (R102).
-/

namespace Sys2Proof

/-! ## Operands -/

/-- The width of an access, 8 or 16 (R77); any other is refused (U9). -/
def decodeWidth : Nat → Except Reject Width
  | 8 => .ok .byte
  | 16 => .ok .word
  | _ => .error .badWidth

/-- The value written, `w` bits (R100). -/
def decodeValue (width value : Nat) : Except Reject HostVal :=
  match decodeWidth width with
  | .error e => .error e
  | .ok .byte => if value < 256 then .ok (.byte (BitVec.ofNat 8 value)) else .error .badValue
  | .ok .word => if value < 65536 then .ok (.word (BitVec.ofNat 16 value)) else .error .badValue

/-! ## The register map -/

/-- Register page 0, reads (R103). -/
def readPage0 : Nat → Option (Width → Instr)
  | 0x01 => some .rdP0Clda0
  | 0x02 => some .rdP0Clda1
  | 0x03 => some .rdP0Bnry
  | 0x04 => some .rdP0Tsr
  | 0x05 => some .rdP0Ncr
  | 0x06 => some .rdP0Fifo
  | 0x07 => some .rdP0Isr
  | 0x08 => some .rdP0Crda0
  | 0x09 => some .rdP0Crda1
  | 0x0A => some .rdP0Id0
  | 0x0B => some .rdP0Id1
  | 0x0C => some .rdP0Rsr
  | 0x0D => some .rdP0Cntr0
  | 0x0E => some .rdP0Cntr1
  | 0x0F => some .rdP0Cntr2
  | _ => none

/-- Register page 0, writes (R104). -/
def writePage0 : Nat → Option (HostVal → Instr)
  | 0x01 => some .wrP0Pstart
  | 0x02 => some .wrP0Pstop
  | 0x03 => some .wrP0Bnry
  | 0x04 => some .wrP0Tpsr
  | 0x05 => some .wrP0Tbcr0
  | 0x06 => some .wrP0Tbcr1
  | 0x07 => some .wrP0Isr
  | 0x08 => some .wrP0Rsar0
  | 0x09 => some .wrP0Rsar1
  | 0x0A => some .wrP0Rbcr0
  | 0x0B => some .wrP0Rbcr1
  | 0x0C => some .wrP0Rcr
  | 0x0D => some .wrP0Tcr
  | 0x0E => some .wrP0Dcr
  | 0x0F => some .wrP0Imr
  | _ => none

/-- Register page 1, reads (R105). -/
def readPage1 : Nat → Option (Width → Instr)
  | 0x01 => some .rdP1Par0
  | 0x02 => some .rdP1Par1
  | 0x03 => some .rdP1Par2
  | 0x04 => some .rdP1Par3
  | 0x05 => some .rdP1Par4
  | 0x06 => some .rdP1Par5
  | 0x07 => some .rdP1Curr
  | 0x08 => some .rdP1Mar0
  | 0x09 => some .rdP1Mar1
  | 0x0A => some .rdP1Mar2
  | 0x0B => some .rdP1Mar3
  | 0x0C => some .rdP1Mar4
  | 0x0D => some .rdP1Mar5
  | 0x0E => some .rdP1Mar6
  | 0x0F => some .rdP1Mar7
  | _ => none

/-- Register page 1, writes (R105). -/
def writePage1 : Nat → Option (HostVal → Instr)
  | 0x01 => some .wrP1Par0
  | 0x02 => some .wrP1Par1
  | 0x03 => some .wrP1Par2
  | 0x04 => some .wrP1Par3
  | 0x05 => some .wrP1Par4
  | 0x06 => some .wrP1Par5
  | 0x07 => some .wrP1Curr
  | 0x08 => some .wrP1Mar0
  | 0x09 => some .wrP1Mar1
  | 0x0A => some .wrP1Mar2
  | 0x0B => some .wrP1Mar3
  | 0x0C => some .wrP1Mar4
  | 0x0D => some .wrP1Mar5
  | 0x0E => some .wrP1Mar6
  | 0x0F => some .wrP1Mar7
  | _ => none

/-- Register page 2, reads (R106). -/
def readPage2 : Nat → Option (Width → Instr)
  | 0x01 => some .rdP2Pstart
  | 0x02 => some .rdP2Pstop
  | 0x03 => some .rdP2Rnpp
  | 0x04 => some .rdP2Tpsr
  | 0x05 => some .rdP2Lnpp
  | 0x06 => some .rdP2Acu
  | 0x07 => some .rdP2Acl
  | 0x08 => some .rdP2Off08
  | 0x09 => some .rdP2Off09
  | 0x0A => some .rdP2Off0A
  | 0x0B => some .rdP2Off0B
  | 0x0C => some .rdP2Rcr
  | 0x0D => some .rdP2Tcr
  | 0x0E => some .rdP2Dcr
  | 0x0F => some .rdP2Imr
  | _ => none

/-- Register page 2, writes (R106). -/
def writePage2 : Nat → Option (HostVal → Instr)
  | 0x01 => some .wrP2Pstart
  | 0x02 => some .wrP2Pstop
  | 0x03 => some .wrP2Rnpp
  | 0x04 => some .wrP2Tpsr
  | 0x05 => some .wrP2Lnpp
  | 0x06 => some .wrP2Acu
  | 0x07 => some .wrP2Acl
  | 0x08 => some .wrP2Off08
  | 0x09 => some .wrP2Off09
  | 0x0A => some .wrP2Off0A
  | 0x0B => some .wrP2Off0B
  | 0x0C => some .wrP2Rcr
  | 0x0D => some .wrP2Tcr
  | 0x0E => some .wrP2Dcr
  | 0x0F => some .wrP2Imr
  | _ => none

/-- Register page 3, reads (R107). -/
def readPage3 : Nat → Option (Width → Instr)
  | 0x01 => some .rdP3Off01
  | 0x02 => some .rdP3Off02
  | 0x03 => some .rdP3Off03
  | 0x04 => some .rdP3Off04
  | 0x05 => some .rdP3Off05
  | 0x06 => some .rdP3Off06
  | 0x07 => some .rdP3Off07
  | 0x08 => some .rdP3Off08
  | 0x09 => some .rdP3Off09
  | 0x0A => some .rdP3Off0A
  | 0x0B => some .rdP3Off0B
  | 0x0C => some .rdP3Off0C
  | 0x0D => some .rdP3Off0D
  | 0x0E => some .rdP3Off0E
  | 0x0F => some .rdP3Off0F
  | _ => none

/-- Register page 3, writes (R107). -/
def writePage3 : Nat → Option (HostVal → Instr)
  | 0x01 => some .wrP3Off01
  | 0x02 => some .wrP3Off02
  | 0x03 => some .wrP3Off03
  | 0x04 => some .wrP3Off04
  | 0x05 => some .wrP3Off05
  | 0x06 => some .wrP3Off06
  | 0x07 => some .wrP3Off07
  | 0x08 => some .wrP3Off08
  | 0x09 => some .wrP3Off09
  | 0x0A => some .wrP3Off0A
  | 0x0B => some .wrP3Off0B
  | 0x0C => some .wrP3Off0C
  | 0x0D => some .wrP3Off0D
  | 0x0E => some .wrP3Off0E
  | 0x0F => some .wrP3Off0F
  | _ => none

/-- R102, reads: CR at offset 0 of every page, otherwise the entry of the page `CR.pgsel` selects. -/
def readRow (page : BitVec 2) (off : Nat) : Option (Width → Instr) :=
  if off = 0 then some .rdCr
  else match page.toNat with
    | 0 => readPage0 off
    | 1 => readPage1 off
    | 2 => readPage2 off
    | _ => readPage3 off

/-- R102, writes. -/
def writeRow (page : BitVec 2) (off : Nat) : Option (HostVal → Instr) :=
  if off = 0 then some .wrCr
  else match page.toNat with
    | 0 => writePage0 off
    | 1 => writePage1 off
    | 2 => writePage2 off
    | _ => writePage3 off

/-- The operation a request is, with `page = CR.pgsel` at that moment; total, and refuses by name (R116, U9). -/
def decode (page : BitVec 2) : Request → Except Reject Instr
  | .regRead off width =>
    match readRow page off, decodeWidth width with
    | none, _ => .error .badOffset
    | some _, .error e => .error e
    | some row, .ok w => .ok (row w)
  | .regWrite off width value =>
    match writeRow page off, decodeValue width value with
    | none, _ => .error .badOffset
    | some _, .error e => .error e
    | some row, .ok v => .ok (row v)
  | .dataRead width =>
    match decodeWidth width with
    | .error e => .error e
    | .ok w => .ok (.drd w)
  | .dataWrite width value =>
    match decodeValue width value with
    | .error e => .error e
    | .ok v => .ok (.dwr v)
  | .deliver frame errs => if verdictOk errs then .ok (.rx frame errs) else .error .badVerdict
  | .txComplete outcome => if txOutcomes.contains outcome then .ok (.txdone outcome) else .error .badOutcome
  | .hardReset content => if content.length ≤ maxMemSize then .ok (.hreset content) else .error .badContent
  | .other _ => .error .badSelector

/-- The 8-bit selector of R101: `ext`, `wr`, `page`, `off`. -/
def selector (page : BitVec 2) : Request → Byte
  | .regRead off _ => 0b00#2 ++ page ++ BitVec.ofNat 4 off
  | .regWrite off _ _ => 0b01#2 ++ page ++ BitVec.ofNat 4 off
  | .dataRead _ => 0x80#8
  | .dataWrite _ _ => 0xC0#8
  | .deliver _ _ => 0x90#8
  | .txComplete _ => 0xA0#8
  | .hardReset _ => 0xB0#8
  | .other sel => sel

/-! ## The value written to CR (R108) -/

/-- CR.STOP: bit 0 set (R202). -/
def crStopValue (rest : BitVec 7) : Byte := rest ++ 1#1

/-- CR.START: bit 1 set (R203). -/
def crStartValue (high : BitVec 6) (stop : BitVec 1) : Byte := high ++ 1#1 ++ stop

/-- CR.XMIT: bits 2:0 are 110 (R270). -/
def crXmitValue (high : BitVec 5) : Byte := high ++ 0b110#3

/-- CR.RDMA.RD: bits 5:3 are 001 and bit 0 is clear (R109, R302). -/
def crRdmaRdValue (pgsel txpStart : BitVec 2) : Byte := pgsel ++ 0b001#3 ++ txpStart ++ 0#1

/-- CR.RDMA.WR: bits 5:3 are 010 and bit 0 is clear (R109, R302). -/
def crRdmaWrValue (pgsel txpStart : BitVec 2) : Byte := pgsel ++ 0b010#3 ++ txpStart ++ 0#1

/-- CR.RDMA.SEND: bits 5:3 are 011 and bit 0 is clear (R109, R305). -/
def crRdmaSendValue (pgsel txpStart : BitVec 2) : Byte := pgsel ++ 0b011#3 ++ txpStart ++ 0#1

/-- CR.RDMA.ABORT: bit 5 is set and bit 0 is clear (R109, R304). -/
def crRdmaAbortValue (pgsel cmdLow txpStart : BitVec 2) : Byte := pgsel ++ 1#1 ++ cmdLow ++ txpStart ++ 0#1

/-- CR.RDMA.ABORT0: bits 5:3 are 000 and bit 0 is clear (R109, R304). -/
def crRdmaAbort0Value (pgsel txpStart : BitVec 2) : Byte := pgsel ++ 0b000#3 ++ txpStart ++ 0#1

/-- CR.PAGE: every value; bits 7:6 are the page (R204). -/
def crPageValue (pgsel : BitVec 2) (rest : BitVec 6) : Byte := pgsel ++ rest

/-- The value of the CR write that carries the command, for the rows of format CRVAL; `none` for every other row. -/
def crValue : Instr → Option Byte
  | .crStop rest => some (crStopValue rest)
  | .crStart high stop => some (crStartValue high stop)
  | .crXmit high => some (crXmitValue high)
  | .crRdmaRd pgsel txpStart => some (crRdmaRdValue pgsel txpStart)
  | .crRdmaWr pgsel txpStart => some (crRdmaWrValue pgsel txpStart)
  | .crRdmaSend pgsel txpStart => some (crRdmaSendValue pgsel txpStart)
  | .crRdmaAbort pgsel cmdLow txpStart => some (crRdmaAbortValue pgsel cmdLow txpStart)
  | .crRdmaAbort0 pgsel txpStart => some (crRdmaAbort0Value pgsel txpStart)
  | .crPage pgsel rest => some (crPageValue pgsel rest)
  | .rdCr _ => none
  | .wrCr _ => none
  | .rdP0Clda0 _ => none
  | .rdP0Clda1 _ => none
  | .rdP0Bnry _ => none
  | .rdP0Tsr _ => none
  | .rdP0Ncr _ => none
  | .rdP0Fifo _ => none
  | .rdP0Isr _ => none
  | .rdP0Crda0 _ => none
  | .rdP0Crda1 _ => none
  | .rdP0Id0 _ => none
  | .rdP0Id1 _ => none
  | .rdP0Rsr _ => none
  | .rdP0Cntr0 _ => none
  | .rdP0Cntr1 _ => none
  | .rdP0Cntr2 _ => none
  | .wrP0Pstart _ => none
  | .wrP0Pstop _ => none
  | .wrP0Bnry _ => none
  | .wrP0Tpsr _ => none
  | .wrP0Tbcr0 _ => none
  | .wrP0Tbcr1 _ => none
  | .wrP0Isr _ => none
  | .wrP0Rsar0 _ => none
  | .wrP0Rsar1 _ => none
  | .wrP0Rbcr0 _ => none
  | .wrP0Rbcr1 _ => none
  | .wrP0Rcr _ => none
  | .wrP0Tcr _ => none
  | .wrP0Dcr _ => none
  | .wrP0Imr _ => none
  | .rdP1Par0 _ => none
  | .rdP1Par1 _ => none
  | .rdP1Par2 _ => none
  | .rdP1Par3 _ => none
  | .rdP1Par4 _ => none
  | .rdP1Par5 _ => none
  | .wrP1Par0 _ => none
  | .wrP1Par1 _ => none
  | .wrP1Par2 _ => none
  | .wrP1Par3 _ => none
  | .wrP1Par4 _ => none
  | .wrP1Par5 _ => none
  | .rdP1Curr _ => none
  | .wrP1Curr _ => none
  | .rdP1Mar0 _ => none
  | .rdP1Mar1 _ => none
  | .rdP1Mar2 _ => none
  | .rdP1Mar3 _ => none
  | .rdP1Mar4 _ => none
  | .rdP1Mar5 _ => none
  | .rdP1Mar6 _ => none
  | .rdP1Mar7 _ => none
  | .wrP1Mar0 _ => none
  | .wrP1Mar1 _ => none
  | .wrP1Mar2 _ => none
  | .wrP1Mar3 _ => none
  | .wrP1Mar4 _ => none
  | .wrP1Mar5 _ => none
  | .wrP1Mar6 _ => none
  | .wrP1Mar7 _ => none
  | .rdP2Pstart _ => none
  | .rdP2Pstop _ => none
  | .rdP2Rnpp _ => none
  | .rdP2Tpsr _ => none
  | .rdP2Lnpp _ => none
  | .rdP2Acu _ => none
  | .rdP2Acl _ => none
  | .rdP2Off08 _ => none
  | .rdP2Off09 _ => none
  | .rdP2Off0A _ => none
  | .rdP2Off0B _ => none
  | .rdP2Rcr _ => none
  | .rdP2Tcr _ => none
  | .rdP2Dcr _ => none
  | .rdP2Imr _ => none
  | .wrP2Pstart _ => none
  | .wrP2Pstop _ => none
  | .wrP2Rnpp _ => none
  | .wrP2Tpsr _ => none
  | .wrP2Lnpp _ => none
  | .wrP2Acu _ => none
  | .wrP2Acl _ => none
  | .wrP2Off08 _ => none
  | .wrP2Off09 _ => none
  | .wrP2Off0A _ => none
  | .wrP2Off0B _ => none
  | .wrP2Rcr _ => none
  | .wrP2Tcr _ => none
  | .wrP2Dcr _ => none
  | .wrP2Imr _ => none
  | .rdP3Off01 _ => none
  | .rdP3Off02 _ => none
  | .rdP3Off03 _ => none
  | .rdP3Off04 _ => none
  | .rdP3Off05 _ => none
  | .rdP3Off06 _ => none
  | .rdP3Off07 _ => none
  | .rdP3Off08 _ => none
  | .rdP3Off09 _ => none
  | .rdP3Off0A _ => none
  | .rdP3Off0B _ => none
  | .rdP3Off0C _ => none
  | .rdP3Off0D _ => none
  | .rdP3Off0E _ => none
  | .rdP3Off0F _ => none
  | .wrP3Off01 _ => none
  | .wrP3Off02 _ => none
  | .wrP3Off03 _ => none
  | .wrP3Off04 _ => none
  | .wrP3Off05 _ => none
  | .wrP3Off06 _ => none
  | .wrP3Off07 _ => none
  | .wrP3Off08 _ => none
  | .wrP3Off09 _ => none
  | .wrP3Off0A _ => none
  | .wrP3Off0B _ => none
  | .wrP3Off0C _ => none
  | .wrP3Off0D _ => none
  | .wrP3Off0E _ => none
  | .wrP3Off0F _ => none
  | .drd _ => none
  | .dwr _ => none
  | .rx _ _ => none
  | .txdone _ => none
  | .hreset _ => none

/-- The sub-decode of the value `v` of a CR write (R101): every CRVAL row that matches `v`, in the table's order.
"Several rows can match one value because one CR write carries several commands". -/
def crCommands (v : Byte) : List Instr :=
  let pgsel := v.extractLsb' 6 2
  let txpStart := v.extractLsb' 1 2
  (if v &&& 0x01#8 = 0x01#8 then [.crStop (v.extractLsb' 1 7)] else []) ++
  (if v &&& 0x02#8 = 0x02#8 then [.crStart (v.extractLsb' 2 6) (v.extractLsb' 0 1)] else []) ++
  (if v &&& 0x07#8 = 0x06#8 then [.crXmit (v.extractLsb' 3 5)] else []) ++
  (if v &&& 0x39#8 = 0x08#8 then [.crRdmaRd pgsel txpStart] else []) ++
  (if v &&& 0x39#8 = 0x10#8 then [.crRdmaWr pgsel txpStart] else []) ++
  (if v &&& 0x39#8 = 0x18#8 then [.crRdmaSend pgsel txpStart] else []) ++
  (if v &&& 0x21#8 = 0x20#8 then [.crRdmaAbort pgsel (v.extractLsb' 3 2) txpStart] else []) ++
  (if v &&& 0x39#8 = 0x00#8 then [.crRdmaAbort0 pgsel txpStart] else []) ++
  [.crPage pgsel (v.extractLsb' 0 6)]

/-! ## The encoder -/

/-- A register read at `off` as its bus tuple. -/
def busRead (off : Nat) : Width → Request
  | .byte => .regRead off 8
  | .word => .regRead off 16

/-- A register write at `off` as its bus tuple. -/
def busWrite (off : Nat) : HostVal → Request
  | .byte v => .regWrite off 8 v.toNat
  | .word v => .regWrite off 16 v.toNat

/-- The request an operation is presented as (R100, R101); a command of a CR write is presented as that write. -/
def encode : Instr → Request
  | .rdCr w => busRead 0x00 w
  | .wrCr v => busWrite 0x00 v
  | .rdP0Clda0 w => busRead 0x01 w
  | .rdP0Clda1 w => busRead 0x02 w
  | .rdP0Bnry w => busRead 0x03 w
  | .rdP0Tsr w => busRead 0x04 w
  | .rdP0Ncr w => busRead 0x05 w
  | .rdP0Fifo w => busRead 0x06 w
  | .rdP0Isr w => busRead 0x07 w
  | .rdP0Crda0 w => busRead 0x08 w
  | .rdP0Crda1 w => busRead 0x09 w
  | .rdP0Id0 w => busRead 0x0A w
  | .rdP0Id1 w => busRead 0x0B w
  | .rdP0Rsr w => busRead 0x0C w
  | .rdP0Cntr0 w => busRead 0x0D w
  | .rdP0Cntr1 w => busRead 0x0E w
  | .rdP0Cntr2 w => busRead 0x0F w
  | .wrP0Pstart v => busWrite 0x01 v
  | .wrP0Pstop v => busWrite 0x02 v
  | .wrP0Bnry v => busWrite 0x03 v
  | .wrP0Tpsr v => busWrite 0x04 v
  | .wrP0Tbcr0 v => busWrite 0x05 v
  | .wrP0Tbcr1 v => busWrite 0x06 v
  | .wrP0Isr v => busWrite 0x07 v
  | .wrP0Rsar0 v => busWrite 0x08 v
  | .wrP0Rsar1 v => busWrite 0x09 v
  | .wrP0Rbcr0 v => busWrite 0x0A v
  | .wrP0Rbcr1 v => busWrite 0x0B v
  | .wrP0Rcr v => busWrite 0x0C v
  | .wrP0Tcr v => busWrite 0x0D v
  | .wrP0Dcr v => busWrite 0x0E v
  | .wrP0Imr v => busWrite 0x0F v
  | .rdP1Par0 w => busRead 0x01 w
  | .rdP1Par1 w => busRead 0x02 w
  | .rdP1Par2 w => busRead 0x03 w
  | .rdP1Par3 w => busRead 0x04 w
  | .rdP1Par4 w => busRead 0x05 w
  | .rdP1Par5 w => busRead 0x06 w
  | .wrP1Par0 v => busWrite 0x01 v
  | .wrP1Par1 v => busWrite 0x02 v
  | .wrP1Par2 v => busWrite 0x03 v
  | .wrP1Par3 v => busWrite 0x04 v
  | .wrP1Par4 v => busWrite 0x05 v
  | .wrP1Par5 v => busWrite 0x06 v
  | .rdP1Curr w => busRead 0x07 w
  | .wrP1Curr v => busWrite 0x07 v
  | .rdP1Mar0 w => busRead 0x08 w
  | .rdP1Mar1 w => busRead 0x09 w
  | .rdP1Mar2 w => busRead 0x0A w
  | .rdP1Mar3 w => busRead 0x0B w
  | .rdP1Mar4 w => busRead 0x0C w
  | .rdP1Mar5 w => busRead 0x0D w
  | .rdP1Mar6 w => busRead 0x0E w
  | .rdP1Mar7 w => busRead 0x0F w
  | .wrP1Mar0 v => busWrite 0x08 v
  | .wrP1Mar1 v => busWrite 0x09 v
  | .wrP1Mar2 v => busWrite 0x0A v
  | .wrP1Mar3 v => busWrite 0x0B v
  | .wrP1Mar4 v => busWrite 0x0C v
  | .wrP1Mar5 v => busWrite 0x0D v
  | .wrP1Mar6 v => busWrite 0x0E v
  | .wrP1Mar7 v => busWrite 0x0F v
  | .rdP2Pstart w => busRead 0x01 w
  | .rdP2Pstop w => busRead 0x02 w
  | .rdP2Rnpp w => busRead 0x03 w
  | .rdP2Tpsr w => busRead 0x04 w
  | .rdP2Lnpp w => busRead 0x05 w
  | .rdP2Acu w => busRead 0x06 w
  | .rdP2Acl w => busRead 0x07 w
  | .rdP2Off08 w => busRead 0x08 w
  | .rdP2Off09 w => busRead 0x09 w
  | .rdP2Off0A w => busRead 0x0A w
  | .rdP2Off0B w => busRead 0x0B w
  | .rdP2Rcr w => busRead 0x0C w
  | .rdP2Tcr w => busRead 0x0D w
  | .rdP2Dcr w => busRead 0x0E w
  | .rdP2Imr w => busRead 0x0F w
  | .wrP2Pstart v => busWrite 0x01 v
  | .wrP2Pstop v => busWrite 0x02 v
  | .wrP2Rnpp v => busWrite 0x03 v
  | .wrP2Tpsr v => busWrite 0x04 v
  | .wrP2Lnpp v => busWrite 0x05 v
  | .wrP2Acu v => busWrite 0x06 v
  | .wrP2Acl v => busWrite 0x07 v
  | .wrP2Off08 v => busWrite 0x08 v
  | .wrP2Off09 v => busWrite 0x09 v
  | .wrP2Off0A v => busWrite 0x0A v
  | .wrP2Off0B v => busWrite 0x0B v
  | .wrP2Rcr v => busWrite 0x0C v
  | .wrP2Tcr v => busWrite 0x0D v
  | .wrP2Dcr v => busWrite 0x0E v
  | .wrP2Imr v => busWrite 0x0F v
  | .rdP3Off01 w => busRead 0x01 w
  | .rdP3Off02 w => busRead 0x02 w
  | .rdP3Off03 w => busRead 0x03 w
  | .rdP3Off04 w => busRead 0x04 w
  | .rdP3Off05 w => busRead 0x05 w
  | .rdP3Off06 w => busRead 0x06 w
  | .rdP3Off07 w => busRead 0x07 w
  | .rdP3Off08 w => busRead 0x08 w
  | .rdP3Off09 w => busRead 0x09 w
  | .rdP3Off0A w => busRead 0x0A w
  | .rdP3Off0B w => busRead 0x0B w
  | .rdP3Off0C w => busRead 0x0C w
  | .rdP3Off0D w => busRead 0x0D w
  | .rdP3Off0E w => busRead 0x0E w
  | .rdP3Off0F w => busRead 0x0F w
  | .wrP3Off01 v => busWrite 0x01 v
  | .wrP3Off02 v => busWrite 0x02 v
  | .wrP3Off03 v => busWrite 0x03 v
  | .wrP3Off04 v => busWrite 0x04 v
  | .wrP3Off05 v => busWrite 0x05 v
  | .wrP3Off06 v => busWrite 0x06 v
  | .wrP3Off07 v => busWrite 0x07 v
  | .wrP3Off08 v => busWrite 0x08 v
  | .wrP3Off09 v => busWrite 0x09 v
  | .wrP3Off0A v => busWrite 0x0A v
  | .wrP3Off0B v => busWrite 0x0B v
  | .wrP3Off0C v => busWrite 0x0C v
  | .wrP3Off0D v => busWrite 0x0D v
  | .wrP3Off0E v => busWrite 0x0E v
  | .wrP3Off0F v => busWrite 0x0F v
  | .drd .byte => .dataRead 8
  | .drd .word => .dataRead 16
  | .dwr (.byte v) => .dataWrite 8 v.toNat
  | .dwr (.word v) => .dataWrite 16 v.toNat
  | .rx frame errs => .deliver frame errs
  | .txdone outcome => .txComplete outcome
  | .hreset content => .hardReset content
  | .crStop rest => busWrite 0x00 (.byte (crStopValue rest))
  | .crStart high stop => busWrite 0x00 (.byte (crStartValue high stop))
  | .crXmit high => busWrite 0x00 (.byte (crXmitValue high))
  | .crRdmaRd pgsel txpStart => busWrite 0x00 (.byte (crRdmaRdValue pgsel txpStart))
  | .crRdmaWr pgsel txpStart => busWrite 0x00 (.byte (crRdmaWrValue pgsel txpStart))
  | .crRdmaSend pgsel txpStart => busWrite 0x00 (.byte (crRdmaSendValue pgsel txpStart))
  | .crRdmaAbort pgsel cmdLow txpStart => busWrite 0x00 (.byte (crRdmaAbortValue pgsel cmdLow txpStart))
  | .crRdmaAbort0 pgsel txpStart => busWrite 0x00 (.byte (crRdmaAbort0Value pgsel txpStart))
  | .crPage pgsel rest => busWrite 0x00 (.byte (crPageValue pgsel rest))

/-- The register page an operation's row stands on; `none` for a row that every page answers (R101, R102). -/
def rowPage : Instr → Option (BitVec 2)
  | .rdCr _ => none
  | .wrCr _ => none
  | .rdP0Clda0 _ => some 0#2
  | .rdP0Clda1 _ => some 0#2
  | .rdP0Bnry _ => some 0#2
  | .rdP0Tsr _ => some 0#2
  | .rdP0Ncr _ => some 0#2
  | .rdP0Fifo _ => some 0#2
  | .rdP0Isr _ => some 0#2
  | .rdP0Crda0 _ => some 0#2
  | .rdP0Crda1 _ => some 0#2
  | .rdP0Id0 _ => some 0#2
  | .rdP0Id1 _ => some 0#2
  | .rdP0Rsr _ => some 0#2
  | .rdP0Cntr0 _ => some 0#2
  | .rdP0Cntr1 _ => some 0#2
  | .rdP0Cntr2 _ => some 0#2
  | .wrP0Pstart _ => some 0#2
  | .wrP0Pstop _ => some 0#2
  | .wrP0Bnry _ => some 0#2
  | .wrP0Tpsr _ => some 0#2
  | .wrP0Tbcr0 _ => some 0#2
  | .wrP0Tbcr1 _ => some 0#2
  | .wrP0Isr _ => some 0#2
  | .wrP0Rsar0 _ => some 0#2
  | .wrP0Rsar1 _ => some 0#2
  | .wrP0Rbcr0 _ => some 0#2
  | .wrP0Rbcr1 _ => some 0#2
  | .wrP0Rcr _ => some 0#2
  | .wrP0Tcr _ => some 0#2
  | .wrP0Dcr _ => some 0#2
  | .wrP0Imr _ => some 0#2
  | .rdP1Par0 _ => some 1#2
  | .rdP1Par1 _ => some 1#2
  | .rdP1Par2 _ => some 1#2
  | .rdP1Par3 _ => some 1#2
  | .rdP1Par4 _ => some 1#2
  | .rdP1Par5 _ => some 1#2
  | .wrP1Par0 _ => some 1#2
  | .wrP1Par1 _ => some 1#2
  | .wrP1Par2 _ => some 1#2
  | .wrP1Par3 _ => some 1#2
  | .wrP1Par4 _ => some 1#2
  | .wrP1Par5 _ => some 1#2
  | .rdP1Curr _ => some 1#2
  | .wrP1Curr _ => some 1#2
  | .rdP1Mar0 _ => some 1#2
  | .rdP1Mar1 _ => some 1#2
  | .rdP1Mar2 _ => some 1#2
  | .rdP1Mar3 _ => some 1#2
  | .rdP1Mar4 _ => some 1#2
  | .rdP1Mar5 _ => some 1#2
  | .rdP1Mar6 _ => some 1#2
  | .rdP1Mar7 _ => some 1#2
  | .wrP1Mar0 _ => some 1#2
  | .wrP1Mar1 _ => some 1#2
  | .wrP1Mar2 _ => some 1#2
  | .wrP1Mar3 _ => some 1#2
  | .wrP1Mar4 _ => some 1#2
  | .wrP1Mar5 _ => some 1#2
  | .wrP1Mar6 _ => some 1#2
  | .wrP1Mar7 _ => some 1#2
  | .rdP2Pstart _ => some 2#2
  | .rdP2Pstop _ => some 2#2
  | .rdP2Rnpp _ => some 2#2
  | .rdP2Tpsr _ => some 2#2
  | .rdP2Lnpp _ => some 2#2
  | .rdP2Acu _ => some 2#2
  | .rdP2Acl _ => some 2#2
  | .rdP2Off08 _ => some 2#2
  | .rdP2Off09 _ => some 2#2
  | .rdP2Off0A _ => some 2#2
  | .rdP2Off0B _ => some 2#2
  | .rdP2Rcr _ => some 2#2
  | .rdP2Tcr _ => some 2#2
  | .rdP2Dcr _ => some 2#2
  | .rdP2Imr _ => some 2#2
  | .wrP2Pstart _ => some 2#2
  | .wrP2Pstop _ => some 2#2
  | .wrP2Rnpp _ => some 2#2
  | .wrP2Tpsr _ => some 2#2
  | .wrP2Lnpp _ => some 2#2
  | .wrP2Acu _ => some 2#2
  | .wrP2Acl _ => some 2#2
  | .wrP2Off08 _ => some 2#2
  | .wrP2Off09 _ => some 2#2
  | .wrP2Off0A _ => some 2#2
  | .wrP2Off0B _ => some 2#2
  | .wrP2Rcr _ => some 2#2
  | .wrP2Tcr _ => some 2#2
  | .wrP2Dcr _ => some 2#2
  | .wrP2Imr _ => some 2#2
  | .rdP3Off01 _ => some 3#2
  | .rdP3Off02 _ => some 3#2
  | .rdP3Off03 _ => some 3#2
  | .rdP3Off04 _ => some 3#2
  | .rdP3Off05 _ => some 3#2
  | .rdP3Off06 _ => some 3#2
  | .rdP3Off07 _ => some 3#2
  | .rdP3Off08 _ => some 3#2
  | .rdP3Off09 _ => some 3#2
  | .rdP3Off0A _ => some 3#2
  | .rdP3Off0B _ => some 3#2
  | .rdP3Off0C _ => some 3#2
  | .rdP3Off0D _ => some 3#2
  | .rdP3Off0E _ => some 3#2
  | .rdP3Off0F _ => some 3#2
  | .wrP3Off01 _ => some 3#2
  | .wrP3Off02 _ => some 3#2
  | .wrP3Off03 _ => some 3#2
  | .wrP3Off04 _ => some 3#2
  | .wrP3Off05 _ => some 3#2
  | .wrP3Off06 _ => some 3#2
  | .wrP3Off07 _ => some 3#2
  | .wrP3Off08 _ => some 3#2
  | .wrP3Off09 _ => some 3#2
  | .wrP3Off0A _ => some 3#2
  | .wrP3Off0B _ => some 3#2
  | .wrP3Off0C _ => some 3#2
  | .wrP3Off0D _ => some 3#2
  | .wrP3Off0E _ => some 3#2
  | .wrP3Off0F _ => some 3#2
  | .drd _ => none
  | .dwr _ => none
  | .rx _ _ => none
  | .txdone _ => none
  | .hreset _ => none
  | .crStop _ => none
  | .crStart _ _ => none
  | .crXmit _ => none
  | .crRdmaRd _ _ => none
  | .crRdmaWr _ _ => none
  | .crRdmaSend _ _ => none
  | .crRdmaAbort _ _ _ => none
  | .crRdmaAbort0 _ _ => none
  | .crPage _ _ => none

/-- `(match, mask)` of the operation's row in spec/opcode_table.json: over the selector (R101), for the rows of format CRVAL
over the value of the CR write. -/
def opcodeRow : Instr → Byte × Byte
  | .rdCr _ => (0x00#8, 0xCF#8)
  | .wrCr _ => (0x40#8, 0xCF#8)
  | .rdP0Clda0 _ => (0x01#8, 0xFF#8)
  | .rdP0Clda1 _ => (0x02#8, 0xFF#8)
  | .rdP0Bnry _ => (0x03#8, 0xFF#8)
  | .rdP0Tsr _ => (0x04#8, 0xFF#8)
  | .rdP0Ncr _ => (0x05#8, 0xFF#8)
  | .rdP0Fifo _ => (0x06#8, 0xFF#8)
  | .rdP0Isr _ => (0x07#8, 0xFF#8)
  | .rdP0Crda0 _ => (0x08#8, 0xFF#8)
  | .rdP0Crda1 _ => (0x09#8, 0xFF#8)
  | .rdP0Id0 _ => (0x0A#8, 0xFF#8)
  | .rdP0Id1 _ => (0x0B#8, 0xFF#8)
  | .rdP0Rsr _ => (0x0C#8, 0xFF#8)
  | .rdP0Cntr0 _ => (0x0D#8, 0xFF#8)
  | .rdP0Cntr1 _ => (0x0E#8, 0xFF#8)
  | .rdP0Cntr2 _ => (0x0F#8, 0xFF#8)
  | .wrP0Pstart _ => (0x41#8, 0xFF#8)
  | .wrP0Pstop _ => (0x42#8, 0xFF#8)
  | .wrP0Bnry _ => (0x43#8, 0xFF#8)
  | .wrP0Tpsr _ => (0x44#8, 0xFF#8)
  | .wrP0Tbcr0 _ => (0x45#8, 0xFF#8)
  | .wrP0Tbcr1 _ => (0x46#8, 0xFF#8)
  | .wrP0Isr _ => (0x47#8, 0xFF#8)
  | .wrP0Rsar0 _ => (0x48#8, 0xFF#8)
  | .wrP0Rsar1 _ => (0x49#8, 0xFF#8)
  | .wrP0Rbcr0 _ => (0x4A#8, 0xFF#8)
  | .wrP0Rbcr1 _ => (0x4B#8, 0xFF#8)
  | .wrP0Rcr _ => (0x4C#8, 0xFF#8)
  | .wrP0Tcr _ => (0x4D#8, 0xFF#8)
  | .wrP0Dcr _ => (0x4E#8, 0xFF#8)
  | .wrP0Imr _ => (0x4F#8, 0xFF#8)
  | .rdP1Par0 _ => (0x11#8, 0xFF#8)
  | .rdP1Par1 _ => (0x12#8, 0xFF#8)
  | .rdP1Par2 _ => (0x13#8, 0xFF#8)
  | .rdP1Par3 _ => (0x14#8, 0xFF#8)
  | .rdP1Par4 _ => (0x15#8, 0xFF#8)
  | .rdP1Par5 _ => (0x16#8, 0xFF#8)
  | .wrP1Par0 _ => (0x51#8, 0xFF#8)
  | .wrP1Par1 _ => (0x52#8, 0xFF#8)
  | .wrP1Par2 _ => (0x53#8, 0xFF#8)
  | .wrP1Par3 _ => (0x54#8, 0xFF#8)
  | .wrP1Par4 _ => (0x55#8, 0xFF#8)
  | .wrP1Par5 _ => (0x56#8, 0xFF#8)
  | .rdP1Curr _ => (0x17#8, 0xFF#8)
  | .wrP1Curr _ => (0x57#8, 0xFF#8)
  | .rdP1Mar0 _ => (0x18#8, 0xFF#8)
  | .rdP1Mar1 _ => (0x19#8, 0xFF#8)
  | .rdP1Mar2 _ => (0x1A#8, 0xFF#8)
  | .rdP1Mar3 _ => (0x1B#8, 0xFF#8)
  | .rdP1Mar4 _ => (0x1C#8, 0xFF#8)
  | .rdP1Mar5 _ => (0x1D#8, 0xFF#8)
  | .rdP1Mar6 _ => (0x1E#8, 0xFF#8)
  | .rdP1Mar7 _ => (0x1F#8, 0xFF#8)
  | .wrP1Mar0 _ => (0x58#8, 0xFF#8)
  | .wrP1Mar1 _ => (0x59#8, 0xFF#8)
  | .wrP1Mar2 _ => (0x5A#8, 0xFF#8)
  | .wrP1Mar3 _ => (0x5B#8, 0xFF#8)
  | .wrP1Mar4 _ => (0x5C#8, 0xFF#8)
  | .wrP1Mar5 _ => (0x5D#8, 0xFF#8)
  | .wrP1Mar6 _ => (0x5E#8, 0xFF#8)
  | .wrP1Mar7 _ => (0x5F#8, 0xFF#8)
  | .rdP2Pstart _ => (0x21#8, 0xFF#8)
  | .rdP2Pstop _ => (0x22#8, 0xFF#8)
  | .rdP2Rnpp _ => (0x23#8, 0xFF#8)
  | .rdP2Tpsr _ => (0x24#8, 0xFF#8)
  | .rdP2Lnpp _ => (0x25#8, 0xFF#8)
  | .rdP2Acu _ => (0x26#8, 0xFF#8)
  | .rdP2Acl _ => (0x27#8, 0xFF#8)
  | .rdP2Off08 _ => (0x28#8, 0xFF#8)
  | .rdP2Off09 _ => (0x29#8, 0xFF#8)
  | .rdP2Off0A _ => (0x2A#8, 0xFF#8)
  | .rdP2Off0B _ => (0x2B#8, 0xFF#8)
  | .rdP2Rcr _ => (0x2C#8, 0xFF#8)
  | .rdP2Tcr _ => (0x2D#8, 0xFF#8)
  | .rdP2Dcr _ => (0x2E#8, 0xFF#8)
  | .rdP2Imr _ => (0x2F#8, 0xFF#8)
  | .wrP2Pstart _ => (0x61#8, 0xFF#8)
  | .wrP2Pstop _ => (0x62#8, 0xFF#8)
  | .wrP2Rnpp _ => (0x63#8, 0xFF#8)
  | .wrP2Tpsr _ => (0x64#8, 0xFF#8)
  | .wrP2Lnpp _ => (0x65#8, 0xFF#8)
  | .wrP2Acu _ => (0x66#8, 0xFF#8)
  | .wrP2Acl _ => (0x67#8, 0xFF#8)
  | .wrP2Off08 _ => (0x68#8, 0xFF#8)
  | .wrP2Off09 _ => (0x69#8, 0xFF#8)
  | .wrP2Off0A _ => (0x6A#8, 0xFF#8)
  | .wrP2Off0B _ => (0x6B#8, 0xFF#8)
  | .wrP2Rcr _ => (0x6C#8, 0xFF#8)
  | .wrP2Tcr _ => (0x6D#8, 0xFF#8)
  | .wrP2Dcr _ => (0x6E#8, 0xFF#8)
  | .wrP2Imr _ => (0x6F#8, 0xFF#8)
  | .rdP3Off01 _ => (0x31#8, 0xFF#8)
  | .rdP3Off02 _ => (0x32#8, 0xFF#8)
  | .rdP3Off03 _ => (0x33#8, 0xFF#8)
  | .rdP3Off04 _ => (0x34#8, 0xFF#8)
  | .rdP3Off05 _ => (0x35#8, 0xFF#8)
  | .rdP3Off06 _ => (0x36#8, 0xFF#8)
  | .rdP3Off07 _ => (0x37#8, 0xFF#8)
  | .rdP3Off08 _ => (0x38#8, 0xFF#8)
  | .rdP3Off09 _ => (0x39#8, 0xFF#8)
  | .rdP3Off0A _ => (0x3A#8, 0xFF#8)
  | .rdP3Off0B _ => (0x3B#8, 0xFF#8)
  | .rdP3Off0C _ => (0x3C#8, 0xFF#8)
  | .rdP3Off0D _ => (0x3D#8, 0xFF#8)
  | .rdP3Off0E _ => (0x3E#8, 0xFF#8)
  | .rdP3Off0F _ => (0x3F#8, 0xFF#8)
  | .wrP3Off01 _ => (0x71#8, 0xFF#8)
  | .wrP3Off02 _ => (0x72#8, 0xFF#8)
  | .wrP3Off03 _ => (0x73#8, 0xFF#8)
  | .wrP3Off04 _ => (0x74#8, 0xFF#8)
  | .wrP3Off05 _ => (0x75#8, 0xFF#8)
  | .wrP3Off06 _ => (0x76#8, 0xFF#8)
  | .wrP3Off07 _ => (0x77#8, 0xFF#8)
  | .wrP3Off08 _ => (0x78#8, 0xFF#8)
  | .wrP3Off09 _ => (0x79#8, 0xFF#8)
  | .wrP3Off0A _ => (0x7A#8, 0xFF#8)
  | .wrP3Off0B _ => (0x7B#8, 0xFF#8)
  | .wrP3Off0C _ => (0x7C#8, 0xFF#8)
  | .wrP3Off0D _ => (0x7D#8, 0xFF#8)
  | .wrP3Off0E _ => (0x7E#8, 0xFF#8)
  | .wrP3Off0F _ => (0x7F#8, 0xFF#8)
  | .drd _ => (0x80#8, 0xFF#8)
  | .dwr _ => (0xC0#8, 0xFF#8)
  | .rx _ _ => (0x90#8, 0xFF#8)
  | .txdone _ => (0xA0#8, 0xFF#8)
  | .hreset _ => (0xB0#8, 0xFF#8)
  | .crStop _ => (0x01#8, 0x01#8)
  | .crStart _ _ => (0x02#8, 0x02#8)
  | .crXmit _ => (0x06#8, 0x07#8)
  | .crRdmaRd _ _ => (0x08#8, 0x39#8)
  | .crRdmaWr _ _ => (0x10#8, 0x39#8)
  | .crRdmaSend _ _ => (0x18#8, 0x39#8)
  | .crRdmaAbort _ _ _ => (0x20#8, 0x21#8)
  | .crRdmaAbort0 _ _ => (0x00#8, 0x39#8)
  | .crPage _ _ => (0x00#8, 0x00#8)

/-! ## Words numbered as spec/opcode_table.json numbers them -/

/-- The request whose selector is byte 0 of `w`; the operand byte is byte 1 (0 where the table gives the row no such bits):
the value of a write, `errs` of `Deliver`, the number of the TSR flag of `TxComplete`. Widths are 8 bits, frames and memory
contents empty (log 15). -/
def tableRequest (nbits w : Nat) : Request :=
  let bits := w % 2 ^ nbits
  let sel := bits % 256
  let operand := bits / 256 % 256
  if sel < 0x40 then .regRead (sel % 16) 8
  else if sel < 0x80 then .regWrite (sel % 16) 8 operand
  else if sel = 0x80 then .dataRead 8
  else if sel = 0xC0 then .dataWrite 8 operand
  else if sel = 0x90 then .deliver [] (BitVec.ofNat 8 operand)
  else if sel = 0xA0 then .txComplete (1#8 <<< operand)
  else if sel = 0xB0 then .hardReset []
  else .other (BitVec.ofNat 8 sel)

/-- The page field of the selector in `w` (R101). -/
def tablePage (w : Nat) : BitVec 2 := BitVec.ofNat 2 (w / 16)

/-- The operation the decoder reads from a word numbered as the opcode table numbers it: the word is the selector of R101. -/
def decodeTableWord (nbits w : Nat) : Option Instr :=
  match decode (tablePage w) (tableRequest nbits w) with
  | .ok i => some i
  | .error _ => none

end Sys2Proof
end

