-- ==== Sys2Proof/Machine/Memory.lean ====
section
/-!
DEFINITION. Packet memory as data: the array `mem[0 .. MEM_SIZE-1]` of spec/10_state.md R40, a list of (index, byte)
cells in one canonical form. The key is the array index, not the chip address (R71 maps one to the other).
-/

namespace Sys2Proof.Machine

/-- Packet memory: the cells that differ from `Memory.unlisted`, indices strictly rising. -/
abbrev Memory := List Host.Cell

/-- What an index with no cell reads as: DESIGN CHOICE (log 5). The draw of a reset (R383) is the operand of
`HardReset`, so every content of the array is a list of cells. -/
def Memory.unlisted : Byte := 0x00#8

/-- `mem[k]`. -/
def Memory.read : Memory → Nat → Byte
  | [], _ => Memory.unlisted
  | (a, b) :: rest, k => if k = a then b else Memory.read rest k

/-- A cell for `v` in front of `rest`, unless `v` is what an unlisted index reads as. -/
def Memory.cons (k : Nat) (v : Byte) (rest : Memory) : Memory :=
  if v = Memory.unlisted then rest else (k, v) :: rest

/-- `mem[k] <- v`, keeping the canonical form. -/
def Memory.write : Memory → Nat → Byte → Memory
  | [], k, v => Memory.cons k v []
  | (a, b) :: rest, k, v =>
    if k < a then Memory.cons k v ((a, b) :: rest)
    else if k = a then Memory.cons k v rest
    else (a, b) :: Memory.write rest k v

/-- The array whose bytes from index `k` on are the given ones. -/
def Memory.ofBytes (k : Nat) : List Byte → Memory
  | [] => []
  | b :: rest => Memory.cons k b (Memory.ofBytes (k + 1) rest)

/-- Every index is at least `low`, indices rise strictly, no cell holds the unlisted byte. -/
def Memory.wfFrom (low : Nat) : Memory → Bool
  | [] => true
  | (a, b) :: rest => decide (low ≤ a) && b != Memory.unlisted && Memory.wfFrom (a + 1) rest

/-- The canonical form. -/
def Memory.wf (m : Memory) : Bool := Memory.wfFrom 0 m

/-- Every cell lies inside an array of `size` bytes. -/
def Memory.within (size : Nat) (m : Memory) : Bool := m.all fun cell => decide (cell.1 < size)

end Sys2Proof.Machine
end

