-- ==== Sys2Proof/Machine/Rom.lean ====
section
/-!
DEFINITION. The MAC ROM image (spec/10_state.md R36, spec/30_encoding.md R115), a function of the parameters.
-/

namespace Sys2Proof.Machine

/-- Byte `i` of the image. With `EVEN_MAC` each address byte stands twice in bytes 0 to 11; without it the six bytes
stand in bytes 0 to 5. Every other byte is `ROM_FILL` (R36: bytes 16 to 31 of the packed image too, log 13). -/
def macromByte (c : Config) (i : Nat) : Byte :=
  let k := if c.evenMac then i / 2 else i
  if h : k < 6 then c.macCfg[k] else c.romFill

/-- `macrom[0..31]`. -/
def macromImage (c : Config) : Vector Byte 32 := Vector.ofFn fun i => macromByte c i.val

end Sys2Proof.Machine
end

