-- ==== Sys2Proof/Machine/State.lean ====
section
/-!
DEFINITION. The state of one core instance: every piece of state of spec/10_state.md, and the model's own fields `cfg`,
`pending`, `out` and `draws`; the reasons a step can stop; the state after the attaching `HardReset`.
-/

namespace Sys2Proof.Machine

/-- CR (R21). The access to it as a byte is `crByte` (Operands). -/
structure CommandReg where
  /-- bit 0 -/
  stop : Bool
  /-- bit 1 -/
  start : Bool
  /-- bit 2; 1 while a transmission is pending (R39) -/
  txPacket : Bool
  /-- bits 5:3, the raw command -/
  rdmaCmd : BitVec 3
  /-- bits 7:6 -/
  pgsel : BitVec 2
  deriving DecidableEq, Repr

/-- `rdma_state` (R37). -/
inductive RdmaState where
  | idle
  | reading
  | writing
  | aborted
  deriving DecidableEq, Repr

/-- Output events (R11). -/
inductive Event where
  /-- `Irq(level)` -/
  | irq (level : Bool)
  /-- `TxFrame(bytes)` -/
  | txFrame (bytes : List Byte)
  deriving DecidableEq, Repr

/-- The result of an operation (R11): the value a read returns and the events, in the order emitted. -/
structure Output where
  value : Option HostVal
  events : List Event
  deriving DecidableEq, Repr

/-- No value, no event. -/
def Output.silent : Output := ⟨none, []⟩

/-- The state. -/
structure State where
  /-- the parameters of R8; no operation changes one (log 4) -/
  cfg : Config
  /-- command register (R21) -/
  cr : CommandReg
  /-- interrupt status (R22) -/
  isr : Byte
  /-- interrupt mask (R23) -/
  imr : Byte
  /-- data configuration (R24) -/
  dcr : Byte
  /-- transmit configuration (R25) -/
  tcr : Byte
  /-- transmit status (R26) -/
  tsr : Byte
  /-- receive configuration (R27) -/
  rcr : Byte
  /-- receive status (R28) -/
  rsr : Byte
  /-- `local_dma` (R29) -/
  localDma : Word
  /-- `remote_dma`, the live cursor (R29) -/
  remoteDma : Word
  /-- `remote_start` (R30) -/
  remoteStart : Word
  /-- `remote_bytes` (R30) -/
  remoteBytes : Word
  /-- `page_start` (R31) -/
  pageStart : Byte
  /-- `page_stop` (R31) -/
  pageStop : Byte
  /-- `bound_ptr` (R31) -/
  boundPtr : Byte
  /-- `curr_page` (R31) -/
  currPage : Byte
  /-- `tx_page_start` (R32) -/
  txPageStart : Byte
  /-- `tx_bytes` (R32) -/
  txBytes : Word
  /-- `tallycnt_0` (R33) -/
  tallycnt0 : Byte
  /-- `tallycnt_1` (R33) -/
  tallycnt1 : Byte
  /-- `tallycnt_2`, missed packets (R33) -/
  tallycnt2 : Byte
  /-- `rempkt_ptr` (R34) -/
  rempktPtr : Byte
  /-- `localpkt_ptr` (R34) -/
  localpktPtr : Byte
  /-- `address_cnt` (R34) -/
  addressCnt : Word
  /-- `physaddr[0..5]`, the station address (R35) -/
  physaddr : Vector Byte 6
  /-- `mchash[0..7]`, the multicast hash bitmap (R35) -/
  mchash : Vector Byte 8
  /-- `macrom[0..31]`, constant (R36) -/
  macrom : Vector Byte 32
  /-- `rdma_state` (R37) -/
  rdmaState : RdmaState
  /-- `rdma_remaining` (R37) -/
  rdmaRemaining : Word
  /-- `irq_line`, the level last signalled (R38) -/
  irqLine : Bool
  /-- packet memory (R40) -/
  mem : Memory
  /-- the model's own: the operations the agents present next, oldest first (R6, R12; log 1) -/
  pending : List Request
  /-- the model's own: the result of the last operation (R11; log 2) -/
  out : Output
  /-- the model's own: how many free values have been drawn (R10; log 3) -/
  draws : Nat
  deriving DecidableEq, Repr

/-- Why the machine stops with a fault: never. "No operation faults, traps or aborts" (R7, R340; log 10), so no
constructor; nobody raises one. -/
inductive Fault
  deriving DecidableEq, Repr

/-- Why a step gives no next state. All are safe: the model stops where the spec has no step. -/
inductive Refusal where
  /-- raised by `exec` for an operation that has no meaning yet; safe -/
  | notModelled (mnemonic : String)
  /-- raised by `step`: the request is no operation of the core (U9, R116); safe -/
  | undecodable (why : Reject)
  /-- raised by a CR write with command `send` and `stop = 0` under `SEND_MODE = refuse` (R305, U4); safe -/
  | sendCommand
  /-- raised by `RX` on an `errs` outside its domain, which the decoder never gives (R230); safe -/
  | verdictOutsideDomain
  /-- raised by `TXDONE` on an outcome that R276 does not allow in this state; safe -/
  | outcomeNotAllowed
  deriving DecidableEq, Repr

/-- The instance after attach (R384): parameters chosen, `macrom` built, `HardReset` performed with `irq_line = 0`
beforehand (R380, R381); memory nothing listed (log 5). -/
def State.attach (c : Config) : State where
  cfg := c
  cr := { stop := c.powerupStop, start := false, txPacket := false, rdmaCmd := 0#3, pgsel := 0#2 }
  isr := if c.powerupStop then 0x80#8 else 0x00#8
  imr := 0x00#8
  dcr := 0x00#8
  tcr := 0x00#8
  tsr := 0x00#8
  rcr := 0x00#8
  rsr := 0x00#8
  localDma := 0x0000#16
  remoteDma := 0x0000#16
  remoteStart := 0x0000#16
  remoteBytes := 0x0000#16
  pageStart := 0x00#8
  pageStop := 0x00#8
  boundPtr := 0x00#8
  currPage := 0x00#8
  txPageStart := 0x00#8
  txBytes := 0x0000#16
  tallycnt0 := 0x00#8
  tallycnt1 := 0x00#8
  tallycnt2 := 0x00#8
  rempktPtr := 0x00#8
  localpktPtr := 0x00#8
  addressCnt := 0x0000#16
  physaddr := c.macCfg
  mchash := Vector.replicate 8 0x00#8
  macrom := macromImage c
  rdmaState := .idle
  rdmaRemaining := 0x0000#16
  irqLine := false
  mem := []
  pending := []
  out := Output.silent
  draws := 0

/-- Construction at device attach (R356, R384): parameters that fail the validity conditions of R8 are an initialization
failure and give no instance; all others give the attached core. -/
def State.construct (p : Params) : Option State :=
  if valid : p.valid = true then some (State.attach ⟨p, valid⟩) else none

/-- The machine right after reset: attached with `Config.initial` (log 4). -/
def State.reset : State := State.attach Config.initial

end Sys2Proof.Machine
end

