-- ==== Sys2Proof/Machine/Operands.lean ====
section
/-!
DEFINITION. Operand forms: width adaptation (R113, R309), the command register as a byte (R108), the command classes
(R109), byte halves of the 16-bit registers (R112), and the receive header (R114, R241).
-/

namespace Sys2Proof.Machine

/-- `trunc_8(v)`: the value a register write uses (R113). -/
def low8 : HostVal → Byte
  | .byte v => v
  | .word v => v.extractLsb' 0 8

/-- `zext_16(v)`: the value a data-port write uses (R308, R309). -/
def zext16 : HostVal → Word
  | .byte v => v.zeroExtend 16
  | .word v => v

/-- `zext_w(r)`: what a register read returns (R113, R130). -/
def readResult (r : Byte) : Width → HostVal
  | .byte => .byte r
  | .word => .word (r.zeroExtend 16)

/-- `trunc_w(v)`: what a data-port read returns (R307, R309). -/
def portResult (v : Word) : Width → HostVal
  | .byte => .byte (v.extractLsb' 0 8)
  | .word => .word v

/-- Bits 15:8. -/
def highByte (v : Word) : Byte := v.extractLsb' 8 8

/-- Bits 7:0. -/
def lowByte (v : Word) : Byte := v.extractLsb' 0 8

/-- The register with its high byte replaced (R112). -/
def withHigh (v : Word) (b : Byte) : Word := b ++ lowByte v

/-- The register with its low byte replaced (R112). -/
def withLow (v : Word) (b : Byte) : Word := highByte v ++ b

/-- CR as a byte: `pgsel ++ rdma_cmd ++ tx_packet ++ start ++ stop` (R108, R200). -/
def crByte (c : CommandReg) : Byte :=
  c.pgsel ++ c.rdmaCmd ++ BitVec.ofBool c.txPacket ++ BitVec.ofBool c.start ++ BitVec.ofBool c.stop

/-- `stp = v[0]` (R108). -/
def stpBit (v : Byte) : Bool := v.getLsbD 0

/-- `sta = v[1]` (R108). -/
def staBit (v : Byte) : Bool := v.getLsbD 1

/-- `txp = v[2]` (R108). -/
def txpBit (v : Byte) : Bool := v.getLsbD 2

/-- `rdma_cmd = v[5:3]` (R108). -/
def cmdField (v : Byte) : BitVec 3 := v.extractLsb' 3 3

/-- `pgsel = v[7:6]` (R108). -/
def pageField (v : Byte) : BitVec 2 := v.extractLsb' 6 2

/-- `DecodeRdma` (R109). -/
def decodeRdma (cmd : BitVec 3) : RdmaClass :=
  match cmd.toNat with
  | 1 => .read
  | 2 => .write
  | 3 => .send
  | _ => .abort

/-- `Header(status, next, count)`, in the order `RXHDR_ORDER` gives (R114, R241). -/
def rxHeader (order : RxHdrOrder) (status next : Byte) (count : Word) : List Byte :=
  match order with
  | .statusFirst => [status, next, lowByte count, highByte count]
  | .nextFirst => [next, status, lowByte count, highByte count]

end Sys2Proof.Machine
end

