-- ==== Sys2Proof/Machine/Flags.lean ====
section
/-!
DEFINITION. Status flags and configuration fields by name (spec/10_state.md R22 to R28, spec/30_encoding.md R110), the
write masks (R111), the running predicate (R208), and the interrupt arbiter (R343, R344).
-/

namespace Sys2Proof.Machine

/-! ## ISR flags (R22) -/

def isrPktRx : Byte := 0x01#8
def isrPktTx : Byte := 0x02#8
def isrRxErr : Byte := 0x04#8
def isrTxErr : Byte := 0x08#8
def isrOverwrite : Byte := 0x10#8
def isrCntOflow : Byte := 0x20#8
def isrRdmaDone : Byte := 0x40#8
def isrReset : Byte := 0x80#8

/-- `ISR <- ISR & ~v`: write-1-to-clear (R154). -/
def w1c (isr v : Byte) : Byte := isr &&& ~~~v

/-! ## TSR and RSR flags (R26, R28) -/

def tsrTxOk : Byte := 0x01#8
def rsrRxOk : Byte := 0x01#8

/-! ## Configuration fields (R24, R25, R27) -/

/-- `DCR.wdsize` -/
def wdsize (dcr : Byte) : Bool := dcr.getLsbD 0

/-- `TCR.loop_cntl` -/
def loopCntl (tcr : Byte) : BitVec 2 := tcr.extractLsb' 1 2

/-- `RCR.errors_ok` -/
def errorsOk (rcr : Byte) : Bool := rcr.getLsbD 0

/-- `RCR.runts_ok` -/
def runtsOk (rcr : Byte) : Bool := rcr.getLsbD 1

/-- `RCR.broadcast` -/
def broadcastOk (rcr : Byte) : Bool := rcr.getLsbD 2

/-- `RCR.multicast` -/
def multicastOk (rcr : Byte) : Bool := rcr.getLsbD 3

/-- `RCR.promisc` -/
def promiscuous (rcr : Byte) : Bool := rcr.getLsbD 4

/-- `RCR.monitor` -/
def monitor (rcr : Byte) : Bool := rcr.getLsbD 5

/-! ## Write masks (R111) -/

def rcrMask : Byte := 0x3F#8
def tcrMask : Byte := 0x07#8
def dcrMask : Byte := 0x7F#8
def imrMask : Byte := 0xFF#8

/-! ## Modes and the interrupt line -/

/-- `running` (R208): `CR.start = 1 and CR.stop = 0`. -/
def running (c : CommandReg) : Bool := c.start && !c.stop

/-- `LineActive()` (R343): some bit position holds 1 in both ISR and IMR. -/
def lineActive (isr imr : Byte) : Bool := isr &&& imr != 0x00#8

/-- The start of an operation: its result so far is no value and no event (R11, log 2). -/
def opened (s : State) : State := { s with out := Output.silent }

/-- The event `IrqUpdate` emits: one if the line changes, none otherwise (R344). -/
def irqEvents (before after : Bool) : List Event := if after = before then [] else [.irq after]

/-- `IrqUpdate()` (R344): the line takes the value of the line function, and a change of it is emitted once, after the
events already emitted (R10 `emit`). The one
operation of the interrupt arbiter: what an exception entry is to a processor (R347) is this to the core. -/
def irqUpdate (s : State) : State :=
  { s with
    irqLine := lineActive s.isr s.imr
    out := { s.out with events := s.out.events ++ irqEvents s.irqLine (lineActive s.isr s.imr) } }

end Sys2Proof.Machine
end

