-- ==== Sys2Proof/Machine/Ops.lean ====
section
/-!
DEFINITION. The shared operations: packet memory by chip address (R71 to R73), register accesses (R130, R131), draws
(R10), the soft reset (R209) and the remote-DMA commands (R301 to R305). The core takes no exception (R7, R340): what
stands in its place is `irqUpdate` (Flags).
-/

namespace Sys2Proof.Machine

/-! ## Packet memory by chip address -/

/-- `ChipAddr(a)` (R71): an index into the array, or `none`. -/
def chipAddr (c : Config) (a : Word) : Option Nat :=
  let a1 := if c.memWrap = 0 then a.toNat else a.toNat % c.memWrap
  if c.memStart.toNat ≤ a1 ∧ a1 < c.memEnd then some (a1 - c.memStart.toNat) else none

/-- One byte at a chip address; out of the window `SINK_BYTE` (R72). -/
def readByte (c : Config) (m : Memory) (a : Word) : Byte :=
  match chipAddr c a with
  | some k => Memory.read m k
  | none => c.sinkByte

/-- One byte at a chip address; out of the window it is lost (R73). -/
def writeByte (c : Config) (m : Memory) (a : Word) (b : Byte) : Memory :=
  match chipAddr c a with
  | some k => Memory.write m k b
  | none => m

/-- `MemRead(addr, n)` (R72): low byte at the lower address, each byte translated on its own. -/
def memRead (c : Config) (m : Memory) (a : Word) : Nat → Word
  | 0 => 0#16
  | n + 1 => (readByte c m a).zeroExtend 16 ||| (memRead c m (a + 1#16) n <<< 8)

/-- `MemWrite(addr, n, v)` (R73). -/
def memWrite (c : Config) (m : Memory) (a : Word) : Nat → Word → Memory
  | 0, _ => m
  | n + 1, v => memWrite c (writeByte c m a (lowByte v)) (a + 1#16) n (v >>> 8)

/-- The chip address of the first byte of memory page `p` (R112). -/
def pageBase (p : Byte) : Nat := 256 * p.toNat

/-! ## Results -/

/-- The operation ends in this state. -/
def done (s : State) : Host.Outcome State Fault Refusal := .next s

/-- A register read (R130): the 8-bit value, zero-extended to the width of the access; nothing else. -/
def regRead (r : Byte) (w : Width) (s : State) : Host.Outcome State Fault Refusal :=
  done { s with out := ⟨some (readResult r w), []⟩ }

/-- The next free value (R10 `draw`). -/
def drawn (s : State) : Word := Config.freeValue s.draws

/-- A register read at a position with no register (R180, R186): a draw of 8 bits, fresh at every read (U1, U2). -/
def regReadDraw (w : Width) (s : State) : Host.Outcome State Fault Refusal :=
  done { s with out := ⟨some (readResult (lowByte (drawn s)) w), []⟩, draws := s.draws + 1 }

/-- A register write (R131): the store, with the value truncated to 8 bits (R113), then `IrqUpdate()`. -/
def regWrite (store : Byte → State → State) (v : HostVal) (s : State) : Host.Outcome State Fault Refusal :=
  done (irqUpdate (store (low8 v) (opened s)))

/-- The store of a write to a position without a writable register: nothing (R131, R185, R187). -/
def noStore (_ : Byte) (s : State) : State := s

/-! ## Soft reset -/

/-- `SoftReset()` (R209). -/
def softReset (s : State) : State :=
  { s with
    cr := { s.cr with stop := true, txPacket := false }
    rdmaState := .idle
    rdmaRemaining := 0#16
    isr := s.isr ||| isrReset }

/-! ## Remote-DMA commands -/

/-- A transfer is in progress (R301 `active`). -/
def rdmaActive (r : RdmaState) : Bool := r == .reading || r == .writing

/-- `RdmaStart(c)` (R302, R303), entering `moving` unless the count is zero. -/
def rdmaStart (moving : RdmaState) (s : State) : State :=
  { s with
    remoteDma := s.remoteStart
    rdmaRemaining := s.remoteBytes
    isr := if s.remoteBytes = 0#16 then s.isr ||| isrRdmaDone else s.isr
    rdmaState := if s.remoteBytes = 0#16 then .idle else moving }

/-- `RdmaAbort()` (R304). -/
def rdmaAbort (s : State) : State :=
  { s with rdmaState := .aborted, rdmaRemaining := 0#16, remoteDma := s.remoteStart }

/-- `RdmaIssue(old_class, new_class)` (R301); `send` as `SEND_MODE = inert` has it (R305: a CR write refuses it
before under `refuse`, log 6). -/
def rdmaIssue (oldClass newClass : RdmaClass) (s : State) : State :=
  match newClass with
  | .read => if newClass ≠ oldClass ∨ rdmaActive s.rdmaState = false then rdmaStart .reading s else s
  | .write => if newClass ≠ oldClass ∨ rdmaActive s.rdmaState = false then rdmaStart .writing s else s
  | .abort => if newClass ≠ oldClass ∨ rdmaActive s.rdmaState = true then rdmaAbort s else s
  | .send => if newClass ≠ oldClass ∨ rdmaActive s.rdmaState = true then rdmaAbort s else s

end Sys2Proof.Machine
end

