-- ==== Sys2Proof/Machine/Transmit.lean ====
section
/-!
DEFINITION. The transmit engine (spec/43_transmit.md): trigger, fetch, handoff, and the operation `TxComplete` (row TXDONE).
-/

namespace Sys2Proof.Machine

/-- The frame the trigger fetches (R271): byte `i` is `MemRead(trunc_16(256 * tx_page_start + i), 1)`. -/
def txFetch (s : State) : List Byte :=
  (List.range s.txBytes.toNat).map fun i => readByte s.cfg s.mem (BitVec.ofNat 16 (pageBase s.txPageStart + i))

/-- `TxTrigger()` (R270, R272, R273). -/
def txTrigger (s : State) : State :=
  { s with
    tsr := 0x00#8
    out := { s.out with events := s.out.events ++ [.txFrame (txFetch s)] }
    cr := { s.cr with txPacket := true } }

/-- The outcomes a completion may report (R276): `tx_ok` alone, or any of the seven flags in a loopback configuration. -/
def outcomeAllowed (tcr outcome : Byte) : Bool :=
  if loopCntl tcr = 0#2 then outcome == tsrTxOk else txOutcomes.contains outcome

/-- The state a completion leaves (R275). -/
def txReport (outcome : Byte) (s : State) : State :=
  { s with
    tsr := outcome
    cr := { s.cr with txPacket := false }
    isr := s.isr ||| (if outcome = tsrTxOk then isrPktTx else isrTxErr) }

/-- TXDONE, `TxComplete(outcome)` (R275, R276). Enabled only while `CR.tx_packet = 1`; otherwise it has no effect
(R275 "or equivalently gives it no effect", log 8). -/
def execTxdone (outcome : Byte) (s : State) : Host.Outcome State Fault Refusal :=
  if s.cr.txPacket = false then done (opened s)
  else if outcomeAllowed s.tcr outcome = false then .refused .outcomeNotAllowed
  else done (irqUpdate (txReport outcome (opened s)))

end Sys2Proof.Machine
end

