-- ==== Sys2Proof/Machine/CommandRegister.lean ====
section
/-!
DEFINITION. The command register (spec/41_command_register.md): rows RD_CR and WR_CR, and the commands a CR write carries
(format CRVAL, R101). A CRVAL row is performed as what it is in the core, a CR write whose value has the row's
pattern (log 7).
-/

namespace Sys2Proof.Machine

/-- RD_CR (R200). -/
def execRdCr (w : Width) (s : State) : Host.Outcome State Fault Refusal := regRead (crByte s.cr) w s

/-- Steps 2 to 5 of R201: stop with the soft reset, start, page, command field. -/
def crFields (v : Byte) (s : State) : State :=
  let halted := if stpBit v then softReset s else { s with cr := { s.cr with stop := false } }
  { halted with cr := { halted.cr with start := staBit v, pgsel := pageField v, rdmaCmd := cmdField v } }

/-- Step 6 of R201 (R207). -/
def crIssue (oldClass : RdmaClass) (v : Byte) (s : State) : State :=
  if s.cr.stop then s else rdmaIssue oldClass (decodeRdma (cmdField v)) s

/-- Step 7 of R201 (R206): the trigger, if running and nothing was pending before the write. -/
def crTrigger (oldTxp : Bool) (v : Byte) (s : State) : State :=
  if txpBit v && running s.cr && !oldTxp then txTrigger s else s

/-- Steps 1 to 7 of R201. -/
def crStore (v : Byte) (s : State) : State :=
  crTrigger s.cr.txPacket v (crIssue (decodeRdma s.cr.rdmaCmd) v (crFields v s))

/-- The write carries the command `send` with `stop = 0` under `SEND_MODE = refuse`: no step of the model (R305). -/
def sendRefused (v : Byte) (s : State) : Bool :=
  !stpBit v && decodeRdma (cmdField v) == .send && s.cfg.sendMode == .refuse

/-- `WR CR, v` (R201), step 8 the `IrqUpdate` that ends every register write (R131). -/
def crWrite (v : HostVal) (s : State) : Host.Outcome State Fault Refusal :=
  if sendRefused (low8 v) s then .refused .sendCommand else regWrite crStore v s

/-- WR_CR (R201). -/
def execWrCr (v : HostVal) (s : State) : Host.Outcome State Fault Refusal := crWrite v s

/-- CR.STOP (R202). -/
def execCrStop (rest : BitVec 7) (s : State) : Host.Outcome State Fault Refusal :=
  crWrite (.byte (crStopValue rest)) s

/-- CR.START (R203). -/
def execCrStart (high : BitVec 6) (stop : BitVec 1) (s : State) : Host.Outcome State Fault Refusal :=
  crWrite (.byte (crStartValue high stop)) s

/-- CR.XMIT (R206, R270). -/
def execCrXmit (high : BitVec 5) (s : State) : Host.Outcome State Fault Refusal :=
  crWrite (.byte (crXmitValue high)) s

/-- CR.RDMA.RD (R301, R302). -/
def execCrRdmaRd (pgsel txpStart : BitVec 2) (s : State) : Host.Outcome State Fault Refusal :=
  crWrite (.byte (crRdmaRdValue pgsel txpStart)) s

/-- CR.RDMA.WR (R301, R302). -/
def execCrRdmaWr (pgsel txpStart : BitVec 2) (s : State) : Host.Outcome State Fault Refusal :=
  crWrite (.byte (crRdmaWrValue pgsel txpStart)) s

/-- CR.RDMA.SEND (R305). -/
def execCrRdmaSend (pgsel txpStart : BitVec 2) (s : State) : Host.Outcome State Fault Refusal :=
  crWrite (.byte (crRdmaSendValue pgsel txpStart)) s

/-- CR.RDMA.ABORT (R304). -/
def execCrRdmaAbort (pgsel cmdLow txpStart : BitVec 2) (s : State) : Host.Outcome State Fault Refusal :=
  crWrite (.byte (crRdmaAbortValue pgsel cmdLow txpStart)) s

/-- CR.RDMA.ABORT0 (R304; code 000 decodes as abort, R109). -/
def execCrRdmaAbort0 (pgsel txpStart : BitVec 2) (s : State) : Host.Outcome State Fault Refusal :=
  crWrite (.byte (crRdmaAbort0Value pgsel txpStart)) s

/-- CR.PAGE (R204). -/
def execCrPage (pgsel : BitVec 2) (rest : BitVec 6) (s : State) : Host.Outcome State Fault Refusal :=
  crWrite (.byte (crPageValue pgsel rest)) s

end Sys2Proof.Machine
end

