-- ==== Sys2Proof/Machine/Page0.lean ====
section
/-!
DEFINITION. Register page 0 except CR (spec/40_register_bank.md R133 to R162).
-/

namespace Sys2Proof.Machine

/-- RD_P0.CLDA0 (R133). -/
def execRdP0Clda0 (w : Width) (s : State) : Host.Outcome State Fault Refusal := regRead (lowByte s.localDma) w s

/-- RD_P0.CLDA1 (R134). -/
def execRdP0Clda1 (w : Width) (s : State) : Host.Outcome State Fault Refusal := regRead (highByte s.localDma) w s

/-- RD_P0.BNRY (R135). -/
def execRdP0Bnry (w : Width) (s : State) : Host.Outcome State Fault Refusal := regRead s.boundPtr w s

/-- RD_P0.TSR (R136). -/
def execRdP0Tsr (w : Width) (s : State) : Host.Outcome State Fault Refusal := regRead s.tsr w s

/-- RD_P0.NCR (R137). -/
def execRdP0Ncr (w : Width) (s : State) : Host.Outcome State Fault Refusal := regRead 0x00#8 w s

/-- RD_P0.FIFO (R138). -/
def execRdP0Fifo (w : Width) (s : State) : Host.Outcome State Fault Refusal := regRead 0x00#8 w s

/-- RD_P0.ISR (R139). -/
def execRdP0Isr (w : Width) (s : State) : Host.Outcome State Fault Refusal := regRead s.isr w s

/-- RD_P0.CRDA0 (R140). -/
def execRdP0Crda0 (w : Width) (s : State) : Host.Outcome State Fault Refusal := regRead (lowByte s.remoteDma) w s

/-- RD_P0.CRDA1 (R141). -/
def execRdP0Crda1 (w : Width) (s : State) : Host.Outcome State Fault Refusal := regRead (highByte s.remoteDma) w s

/-- RD_P0.ID0 (R142). -/
def execRdP0Id0 (w : Width) (s : State) : Host.Outcome State Fault Refusal := regRead s.cfg.id0 w s

/-- RD_P0.ID1 (R143). -/
def execRdP0Id1 (w : Width) (s : State) : Host.Outcome State Fault Refusal := regRead s.cfg.id1 w s

/-- RD_P0.RSR (R144). -/
def execRdP0Rsr (w : Width) (s : State) : Host.Outcome State Fault Refusal := regRead s.rsr w s

/-- RD_P0.CNTR0 (R145). -/
def execRdP0Cntr0 (w : Width) (s : State) : Host.Outcome State Fault Refusal := regRead s.tallycnt0 w s

/-- RD_P0.CNTR1 (R146). -/
def execRdP0Cntr1 (w : Width) (s : State) : Host.Outcome State Fault Refusal := regRead s.tallycnt1 w s

/-- RD_P0.CNTR2 (R147). -/
def execRdP0Cntr2 (w : Width) (s : State) : Host.Outcome State Fault Refusal := regRead s.tallycnt2 w s

/-- WR_P0.PSTART (R148). -/
def execWrP0Pstart (v : HostVal) (s : State) : Host.Outcome State Fault Refusal :=
  regWrite (fun v s => { s with pageStart := v }) v s

/-- WR_P0.PSTOP (R149). -/
def execWrP0Pstop (v : HostVal) (s : State) : Host.Outcome State Fault Refusal :=
  regWrite (fun v s => { s with pageStop := v }) v s

/-- WR_P0.BNRY (R150). -/
def execWrP0Bnry (v : HostVal) (s : State) : Host.Outcome State Fault Refusal :=
  regWrite (fun v s => { s with boundPtr := v }) v s

/-- WR_P0.TPSR (R151). -/
def execWrP0Tpsr (v : HostVal) (s : State) : Host.Outcome State Fault Refusal :=
  regWrite (fun v s => { s with txPageStart := v }) v s

/-- WR_P0.TBCR0 (R152). -/
def execWrP0Tbcr0 (v : HostVal) (s : State) : Host.Outcome State Fault Refusal :=
  regWrite (fun v s => { s with txBytes := withLow s.txBytes v }) v s

/-- WR_P0.TBCR1 (R153). -/
def execWrP0Tbcr1 (v : HostVal) (s : State) : Host.Outcome State Fault Refusal :=
  regWrite (fun v s => { s with txBytes := withHigh s.txBytes v }) v s

/-- WR_P0.ISR (R154). -/
def execWrP0Isr (v : HostVal) (s : State) : Host.Outcome State Fault Refusal :=
  regWrite (fun v s => { s with isr := w1c s.isr v }) v s

/-- WR_P0.RSAR0 (R155). -/
def execWrP0Rsar0 (v : HostVal) (s : State) : Host.Outcome State Fault Refusal :=
  regWrite (fun v s => { s with remoteStart := withLow s.remoteStart v }) v s

/-- WR_P0.RSAR1 (R156). -/
def execWrP0Rsar1 (v : HostVal) (s : State) : Host.Outcome State Fault Refusal :=
  regWrite (fun v s => { s with remoteStart := withHigh s.remoteStart v }) v s

/-- WR_P0.RBCR0 (R157). -/
def execWrP0Rbcr0 (v : HostVal) (s : State) : Host.Outcome State Fault Refusal :=
  regWrite (fun v s => { s with remoteBytes := withLow s.remoteBytes v }) v s

/-- WR_P0.RBCR1 (R158). -/
def execWrP0Rbcr1 (v : HostVal) (s : State) : Host.Outcome State Fault Refusal :=
  regWrite (fun v s => { s with remoteBytes := withHigh s.remoteBytes v }) v s

/-- WR_P0.RCR (R159). -/
def execWrP0Rcr (v : HostVal) (s : State) : Host.Outcome State Fault Refusal :=
  regWrite (fun v s => { s with rcr := v &&& rcrMask }) v s

/-- WR_P0.TCR (R160). -/
def execWrP0Tcr (v : HostVal) (s : State) : Host.Outcome State Fault Refusal :=
  regWrite (fun v s => { s with tcr := v &&& tcrMask }) v s

/-- WR_P0.DCR (R161). -/
def execWrP0Dcr (v : HostVal) (s : State) : Host.Outcome State Fault Refusal :=
  regWrite (fun v s => { s with dcr := v &&& dcrMask }) v s

/-- WR_P0.IMR (R162). -/
def execWrP0Imr (v : HostVal) (s : State) : Host.Outcome State Fault Refusal :=
  regWrite (fun v s => { s with imr := v &&& imrMask }) v s

end Sys2Proof.Machine
end

