-- ==== Sys2Proof/Machine/Page1.lean ====
section
/-!
DEFINITION. Register page 1 except CR (spec/40_register_bank.md R163 to R168).
-/

namespace Sys2Proof.Machine

/-- RD_P1.PAR0 (R163). -/
def execRdP1Par0 (w : Width) (s : State) : Host.Outcome State Fault Refusal := regRead s.physaddr[0] w s

/-- RD_P1.PAR1 (R163). -/
def execRdP1Par1 (w : Width) (s : State) : Host.Outcome State Fault Refusal := regRead s.physaddr[1] w s

/-- RD_P1.PAR2 (R163). -/
def execRdP1Par2 (w : Width) (s : State) : Host.Outcome State Fault Refusal := regRead s.physaddr[2] w s

/-- RD_P1.PAR3 (R163). -/
def execRdP1Par3 (w : Width) (s : State) : Host.Outcome State Fault Refusal := regRead s.physaddr[3] w s

/-- RD_P1.PAR4 (R163). -/
def execRdP1Par4 (w : Width) (s : State) : Host.Outcome State Fault Refusal := regRead s.physaddr[4] w s

/-- RD_P1.PAR5 (R163). -/
def execRdP1Par5 (w : Width) (s : State) : Host.Outcome State Fault Refusal := regRead s.physaddr[5] w s

/-- RD_P1.CURR (R165). -/
def execRdP1Curr (w : Width) (s : State) : Host.Outcome State Fault Refusal := regRead s.currPage w s

/-- RD_P1.MAR0 (R167). -/
def execRdP1Mar0 (w : Width) (s : State) : Host.Outcome State Fault Refusal := regRead s.mchash[0] w s

/-- RD_P1.MAR1 (R167). -/
def execRdP1Mar1 (w : Width) (s : State) : Host.Outcome State Fault Refusal := regRead s.mchash[1] w s

/-- RD_P1.MAR2 (R167). -/
def execRdP1Mar2 (w : Width) (s : State) : Host.Outcome State Fault Refusal := regRead s.mchash[2] w s

/-- RD_P1.MAR3 (R167). -/
def execRdP1Mar3 (w : Width) (s : State) : Host.Outcome State Fault Refusal := regRead s.mchash[3] w s

/-- RD_P1.MAR4 (R167). -/
def execRdP1Mar4 (w : Width) (s : State) : Host.Outcome State Fault Refusal := regRead s.mchash[4] w s

/-- RD_P1.MAR5 (R167). -/
def execRdP1Mar5 (w : Width) (s : State) : Host.Outcome State Fault Refusal := regRead s.mchash[5] w s

/-- RD_P1.MAR6 (R167). -/
def execRdP1Mar6 (w : Width) (s : State) : Host.Outcome State Fault Refusal := regRead s.mchash[6] w s

/-- RD_P1.MAR7 (R167). -/
def execRdP1Mar7 (w : Width) (s : State) : Host.Outcome State Fault Refusal := regRead s.mchash[7] w s

/-- WR_P1.PAR0 (R164). -/
def execWrP1Par0 (v : HostVal) (s : State) : Host.Outcome State Fault Refusal :=
  regWrite (fun v s => { s with physaddr := s.physaddr.set 0 v }) v s

/-- WR_P1.PAR1 (R164). -/
def execWrP1Par1 (v : HostVal) (s : State) : Host.Outcome State Fault Refusal :=
  regWrite (fun v s => { s with physaddr := s.physaddr.set 1 v }) v s

/-- WR_P1.PAR2 (R164). -/
def execWrP1Par2 (v : HostVal) (s : State) : Host.Outcome State Fault Refusal :=
  regWrite (fun v s => { s with physaddr := s.physaddr.set 2 v }) v s

/-- WR_P1.PAR3 (R164). -/
def execWrP1Par3 (v : HostVal) (s : State) : Host.Outcome State Fault Refusal :=
  regWrite (fun v s => { s with physaddr := s.physaddr.set 3 v }) v s

/-- WR_P1.PAR4 (R164). -/
def execWrP1Par4 (v : HostVal) (s : State) : Host.Outcome State Fault Refusal :=
  regWrite (fun v s => { s with physaddr := s.physaddr.set 4 v }) v s

/-- WR_P1.PAR5 (R164). -/
def execWrP1Par5 (v : HostVal) (s : State) : Host.Outcome State Fault Refusal :=
  regWrite (fun v s => { s with physaddr := s.physaddr.set 5 v }) v s

/-- WR_P1.CURR (R166). -/
def execWrP1Curr (v : HostVal) (s : State) : Host.Outcome State Fault Refusal :=
  regWrite (fun v s => { s with currPage := v }) v s

/-- WR_P1.MAR0 (R168). -/
def execWrP1Mar0 (v : HostVal) (s : State) : Host.Outcome State Fault Refusal :=
  regWrite (fun v s => { s with mchash := s.mchash.set 0 v }) v s

/-- WR_P1.MAR1 (R168). -/
def execWrP1Mar1 (v : HostVal) (s : State) : Host.Outcome State Fault Refusal :=
  regWrite (fun v s => { s with mchash := s.mchash.set 1 v }) v s

/-- WR_P1.MAR2 (R168). -/
def execWrP1Mar2 (v : HostVal) (s : State) : Host.Outcome State Fault Refusal :=
  regWrite (fun v s => { s with mchash := s.mchash.set 2 v }) v s

/-- WR_P1.MAR3 (R168). -/
def execWrP1Mar3 (v : HostVal) (s : State) : Host.Outcome State Fault Refusal :=
  regWrite (fun v s => { s with mchash := s.mchash.set 3 v }) v s

/-- WR_P1.MAR4 (R168). -/
def execWrP1Mar4 (v : HostVal) (s : State) : Host.Outcome State Fault Refusal :=
  regWrite (fun v s => { s with mchash := s.mchash.set 4 v }) v s

/-- WR_P1.MAR5 (R168). -/
def execWrP1Mar5 (v : HostVal) (s : State) : Host.Outcome State Fault Refusal :=
  regWrite (fun v s => { s with mchash := s.mchash.set 5 v }) v s

/-- WR_P1.MAR6 (R168). -/
def execWrP1Mar6 (v : HostVal) (s : State) : Host.Outcome State Fault Refusal :=
  regWrite (fun v s => { s with mchash := s.mchash.set 6 v }) v s

/-- WR_P1.MAR7 (R168). -/
def execWrP1Mar7 (v : HostVal) (s : State) : Host.Outcome State Fault Refusal :=
  regWrite (fun v s => { s with mchash := s.mchash.set 7 v }) v s

end Sys2Proof.Machine
end

