-- ==== Sys2Proof/Machine/Page2.lean ====
section
/-!
DEFINITION. Register page 2 except CR (spec/40_register_bank.md R169 to R185).
-/

namespace Sys2Proof.Machine

/-- RD_P2.PSTART (R169). -/
def execRdP2Pstart (w : Width) (s : State) : Host.Outcome State Fault Refusal := regRead s.pageStart w s

/-- RD_P2.PSTOP (R170). -/
def execRdP2Pstop (w : Width) (s : State) : Host.Outcome State Fault Refusal := regRead s.pageStop w s

/-- RD_P2.RNPP (R171). -/
def execRdP2Rnpp (w : Width) (s : State) : Host.Outcome State Fault Refusal := regRead s.rempktPtr w s

/-- RD_P2.TPSR (R173). -/
def execRdP2Tpsr (w : Width) (s : State) : Host.Outcome State Fault Refusal := regRead s.txPageStart w s

/-- RD_P2.LNPP (R174). -/
def execRdP2Lnpp (w : Width) (s : State) : Host.Outcome State Fault Refusal := regRead s.localpktPtr w s

/-- RD_P2.ACU (R176). -/
def execRdP2Acu (w : Width) (s : State) : Host.Outcome State Fault Refusal := regRead (highByte s.addressCnt) w s

/-- RD_P2.ACL (R178). -/
def execRdP2Acl (w : Width) (s : State) : Host.Outcome State Fault Refusal := regRead (lowByte s.addressCnt) w s

/-- RD_P2.08 (R180). -/
def execRdP2Off08 (w : Width) (s : State) : Host.Outcome State Fault Refusal := regReadDraw w s

/-- RD_P2.09 (R180). -/
def execRdP2Off09 (w : Width) (s : State) : Host.Outcome State Fault Refusal := regReadDraw w s

/-- RD_P2.0A (R180). -/
def execRdP2Off0A (w : Width) (s : State) : Host.Outcome State Fault Refusal := regReadDraw w s

/-- RD_P2.0B (R180). -/
def execRdP2Off0B (w : Width) (s : State) : Host.Outcome State Fault Refusal := regReadDraw w s

/-- RD_P2.RCR (R181). -/
def execRdP2Rcr (w : Width) (s : State) : Host.Outcome State Fault Refusal := regRead s.rcr w s

/-- RD_P2.TCR (R182). -/
def execRdP2Tcr (w : Width) (s : State) : Host.Outcome State Fault Refusal := regRead s.tcr w s

/-- RD_P2.DCR (R183). -/
def execRdP2Dcr (w : Width) (s : State) : Host.Outcome State Fault Refusal := regRead s.dcr w s

/-- RD_P2.IMR (R184). -/
def execRdP2Imr (w : Width) (s : State) : Host.Outcome State Fault Refusal := regRead s.imr w s

/-- WR_P2.PSTART (R185). -/
def execWrP2Pstart (v : HostVal) (s : State) : Host.Outcome State Fault Refusal := regWrite noStore v s

/-- WR_P2.PSTOP (R185). -/
def execWrP2Pstop (v : HostVal) (s : State) : Host.Outcome State Fault Refusal := regWrite noStore v s

/-- WR_P2.RNPP (R172). -/
def execWrP2Rnpp (v : HostVal) (s : State) : Host.Outcome State Fault Refusal :=
  regWrite (fun v s => { s with rempktPtr := v }) v s

/-- WR_P2.TPSR (R185). -/
def execWrP2Tpsr (v : HostVal) (s : State) : Host.Outcome State Fault Refusal := regWrite noStore v s

/-- WR_P2.LNPP (R175). -/
def execWrP2Lnpp (v : HostVal) (s : State) : Host.Outcome State Fault Refusal :=
  regWrite (fun v s => { s with localpktPtr := v }) v s

/-- WR_P2.ACU (R177). -/
def execWrP2Acu (v : HostVal) (s : State) : Host.Outcome State Fault Refusal :=
  regWrite (fun v s => { s with addressCnt := withHigh s.addressCnt v }) v s

/-- WR_P2.ACL (R179). -/
def execWrP2Acl (v : HostVal) (s : State) : Host.Outcome State Fault Refusal :=
  regWrite (fun v s => { s with addressCnt := withLow s.addressCnt v }) v s

/-- WR_P2.08 (R185). -/
def execWrP2Off08 (v : HostVal) (s : State) : Host.Outcome State Fault Refusal := regWrite noStore v s

/-- WR_P2.09 (R185). -/
def execWrP2Off09 (v : HostVal) (s : State) : Host.Outcome State Fault Refusal := regWrite noStore v s

/-- WR_P2.0A (R185). -/
def execWrP2Off0A (v : HostVal) (s : State) : Host.Outcome State Fault Refusal := regWrite noStore v s

/-- WR_P2.0B (R185). -/
def execWrP2Off0B (v : HostVal) (s : State) : Host.Outcome State Fault Refusal := regWrite noStore v s

/-- WR_P2.RCR (R185). -/
def execWrP2Rcr (v : HostVal) (s : State) : Host.Outcome State Fault Refusal := regWrite noStore v s

/-- WR_P2.TCR (R185). -/
def execWrP2Tcr (v : HostVal) (s : State) : Host.Outcome State Fault Refusal := regWrite noStore v s

/-- WR_P2.DCR (R185). -/
def execWrP2Dcr (v : HostVal) (s : State) : Host.Outcome State Fault Refusal := regWrite noStore v s

/-- WR_P2.IMR (R185). -/
def execWrP2Imr (v : HostVal) (s : State) : Host.Outcome State Fault Refusal := regWrite noStore v s

end Sys2Proof.Machine
end

