-- ==== Sys2Proof/Machine/Page3.lean ====
section
/-!
DEFINITION. Register page 3 except CR (spec/40_register_bank.md R186, R187).
-/

namespace Sys2Proof.Machine

/-- RD_P3.01 (R186). -/
def execRdP3Off01 (w : Width) (s : State) : Host.Outcome State Fault Refusal := regReadDraw w s

/-- RD_P3.02 (R186). -/
def execRdP3Off02 (w : Width) (s : State) : Host.Outcome State Fault Refusal := regReadDraw w s

/-- RD_P3.03 (R186). -/
def execRdP3Off03 (w : Width) (s : State) : Host.Outcome State Fault Refusal := regReadDraw w s

/-- RD_P3.04 (R186). -/
def execRdP3Off04 (w : Width) (s : State) : Host.Outcome State Fault Refusal := regReadDraw w s

/-- RD_P3.05 (R186). -/
def execRdP3Off05 (w : Width) (s : State) : Host.Outcome State Fault Refusal := regReadDraw w s

/-- RD_P3.06 (R186). -/
def execRdP3Off06 (w : Width) (s : State) : Host.Outcome State Fault Refusal := regReadDraw w s

/-- RD_P3.07 (R186). -/
def execRdP3Off07 (w : Width) (s : State) : Host.Outcome State Fault Refusal := regReadDraw w s

/-- RD_P3.08 (R186). -/
def execRdP3Off08 (w : Width) (s : State) : Host.Outcome State Fault Refusal := regReadDraw w s

/-- RD_P3.09 (R186). -/
def execRdP3Off09 (w : Width) (s : State) : Host.Outcome State Fault Refusal := regReadDraw w s

/-- RD_P3.0A (R186). -/
def execRdP3Off0A (w : Width) (s : State) : Host.Outcome State Fault Refusal := regReadDraw w s

/-- RD_P3.0B (R186). -/
def execRdP3Off0B (w : Width) (s : State) : Host.Outcome State Fault Refusal := regReadDraw w s

/-- RD_P3.0C (R186). -/
def execRdP3Off0C (w : Width) (s : State) : Host.Outcome State Fault Refusal := regReadDraw w s

/-- RD_P3.0D (R186). -/
def execRdP3Off0D (w : Width) (s : State) : Host.Outcome State Fault Refusal := regReadDraw w s

/-- RD_P3.0E (R186). -/
def execRdP3Off0E (w : Width) (s : State) : Host.Outcome State Fault Refusal := regReadDraw w s

/-- RD_P3.0F (R186). -/
def execRdP3Off0F (w : Width) (s : State) : Host.Outcome State Fault Refusal := regReadDraw w s

/-- WR_P3.01 (R187). -/
def execWrP3Off01 (v : HostVal) (s : State) : Host.Outcome State Fault Refusal := regWrite noStore v s

/-- WR_P3.02 (R187). -/
def execWrP3Off02 (v : HostVal) (s : State) : Host.Outcome State Fault Refusal := regWrite noStore v s

/-- WR_P3.03 (R187). -/
def execWrP3Off03 (v : HostVal) (s : State) : Host.Outcome State Fault Refusal := regWrite noStore v s

/-- WR_P3.04 (R187). -/
def execWrP3Off04 (v : HostVal) (s : State) : Host.Outcome State Fault Refusal := regWrite noStore v s

/-- WR_P3.05 (R187). -/
def execWrP3Off05 (v : HostVal) (s : State) : Host.Outcome State Fault Refusal := regWrite noStore v s

/-- WR_P3.06 (R187). -/
def execWrP3Off06 (v : HostVal) (s : State) : Host.Outcome State Fault Refusal := regWrite noStore v s

/-- WR_P3.07 (R187). -/
def execWrP3Off07 (v : HostVal) (s : State) : Host.Outcome State Fault Refusal := regWrite noStore v s

/-- WR_P3.08 (R187). -/
def execWrP3Off08 (v : HostVal) (s : State) : Host.Outcome State Fault Refusal := regWrite noStore v s

/-- WR_P3.09 (R187). -/
def execWrP3Off09 (v : HostVal) (s : State) : Host.Outcome State Fault Refusal := regWrite noStore v s

/-- WR_P3.0A (R187). -/
def execWrP3Off0A (v : HostVal) (s : State) : Host.Outcome State Fault Refusal := regWrite noStore v s

/-- WR_P3.0B (R187). -/
def execWrP3Off0B (v : HostVal) (s : State) : Host.Outcome State Fault Refusal := regWrite noStore v s

/-- WR_P3.0C (R187). -/
def execWrP3Off0C (v : HostVal) (s : State) : Host.Outcome State Fault Refusal := regWrite noStore v s

/-- WR_P3.0D (R187). -/
def execWrP3Off0D (v : HostVal) (s : State) : Host.Outcome State Fault Refusal := regWrite noStore v s

/-- WR_P3.0E (R187). -/
def execWrP3Off0E (v : HostVal) (s : State) : Host.Outcome State Fault Refusal := regWrite noStore v s

/-- WR_P3.0F (R187). -/
def execWrP3Off0F (v : HostVal) (s : State) : Host.Outcome State Fault Refusal := regWrite noStore v s

end Sys2Proof.Machine
end

