-- ==== Sys2Proof/Machine/Hash.lean ====
section
/-!
DEFINITION. The multicast hash (spec/42_receive.md R234).
-/

namespace Sys2Proof.Machine

/-- One step of the inner loop of R234: `carry`, the shift, the conditional xor. -/
def crcBit (crc : BitVec 32) (bit : Bool) : BitVec 32 :=
  let carry := crc.getLsbD 31 != bit
  let shifted := crc <<< 1
  if carry then (shifted ^^^ 0x04C11DB6#32) ||| 1#32 else shifted

/-- `n` bits of a byte, least significant first. -/
def crcBits : Nat → BitVec 32 → Byte → BitVec 32
  | 0, crc, _ => crc
  | n + 1, crc, b => crcBits n (crcBit crc (b.getLsbD 0)) (b >>> 1)

/-- The CRC over a list of bytes. -/
def crcBytes : BitVec 32 → List Byte → BitVec 32
  | crc, [] => crc
  | crc, b :: rest => crcBytes (crcBits 8 crc b) rest

/-- `McHash(dst)` of R234: bits 31:26 of the CRC. -/
def crcHash (dst : List Byte) : BitVec 6 := (crcBytes 0xFFFFFFFF#32 dst).extractLsb' 26 6

/-- `McHash` as the parameter of R8 chooses it (log 14). -/
def mcHash (c : HashChoice) (dst : List Byte) : BitVec 6 :=
  match c with
  | .crc => crcHash dst
  | .free => Config.freeHash dst

end Sys2Proof.Machine
end

