-- ==== Sys2Proof/Machine/Receive.lean ====
section
/-!
DEFINITION. The receive engine (spec/42_receive.md): the operation `Deliver` (row RX), its steps (a) to (g).
-/

namespace Sys2Proof.Machine

/-! ## Step (b): the address filter -/

/-- Hash bit `k`: `mchash[k div 8][k mod 8]` (R35). -/
def hashBit (mchash : Vector Byte 8) (k : BitVec 6) : Bool :=
  (mchash[k.toNat / 8]'(by have := k.isLt; omega)).getLsbD (k.toNat % 8)

/-- `Accept(frame, length)` (R232, R233): a plain disjunction of the four tests. -/
def accepts (s : State) (frame : List Byte) : Bool :=
  let dst := frame.take 6
  promiscuous s.rcr ||
    (decide (6 ≤ frame.length) &&
      (dst == s.physaddr.toList ||
        (dst == List.replicate 6 0xFF#8 && broadcastOk s.rcr) ||
        (multicastOk s.rcr && hashBit s.mchash (mcHash s.cfg.mcHash dst))))

/-! ## Step (c): ring space -/

/-- `RingSize()` in pages (R238). -/
def ringSize (s : State) : Nat := s.pageStop.toNat - s.pageStart.toNat

/-- `pages = (length + 4 + 255) div 256` (R238). -/
def pagesFor (length : Nat) : Nat := (length + 4 + 255) / 256

/-- `Avail()` (R238): pages from `curr_page` forward to `bound_ptr` around the ring. -/
def ringAvail (s : State) : Nat :=
  if ringSize s = 0 then 0
  else
    let d := (((s.boundPtr.toNat : Int) - (s.currPage.toNat : Int)) % (ringSize s : Int)).toNat
    if d = 0 then ringSize s else d

/-- `NextPage(pages)` (R240). -/
def nextPage (s : State) (pages : Nat) : Byte :=
  let n := s.currPage.toNat + pages
  BitVec.ofNat 8 (if s.pageStop.toNat ≤ n then n - ringSize s else n)

/-! ## Steps (d) and (e): header, ring write -/

/-- The chip address of byte `i` of a stored frame with its header (R242). -/
def ringAddr (s : State) (i : Nat) : Word :=
  let a := pageBase s.currPage + i
  BitVec.ofNat 16 (if pageBase s.pageStop ≤ a then a - 256 * ringSize s else a)

/-- Bytes `i`, `i + 1`, … written at the addresses `addr` gives them, one at a time (R242). -/
def writeBytes (c : Config) (addr : Nat → Word) (i : Nat) (m : Memory) : List Byte → Memory
  | [] => m
  | b :: rest => writeBytes c addr (i + 1) (writeByte c m (addr i) b) rest

/-- The status of a stored frame (R244). -/
def rxStatus (errs : Byte) : Byte := if errs = 0x00#8 then rsrRxOk else errs

/-- The bytes a stored frame puts in the ring: header, then frame (R241). -/
def rxBytes (s : State) (frame : List Byte) (errs : Byte) : List Byte :=
  rxHeader s.cfg.rxhdrOrder (rxStatus errs) (nextPage s (pagesFor frame.length)) (BitVec.ofNat 16 (frame.length + 4)) ++
    frame

/-! ## The ends of a delivery -/

/-- A frame refused for validation errors (R237). -/
def rxRefuse (errs : Byte) (s : State) : State := { s with rsr := errs, isr := s.isr ||| isrRxErr }

/-- A frame dropped for lack of ring space (R239). -/
def rxOverflow (s : State) : State := { s with tallycnt2 := s.tallycnt2 + 1#8, isr := s.isr ||| isrOverwrite }

/-- A frame stored in the ring (R241 to R244). -/
def rxStore (frame : List Byte) (errs : Byte) (s : State) : State :=
  { s with
    mem := writeBytes s.cfg (ringAddr s) 0 s.mem (rxBytes s frame errs)
    currPage := nextPage s (pagesFor frame.length)
    rsr := rxStatus errs
    isr := s.isr ||| (if errs = 0x00#8 then isrPktRx else isrRxErr) }

/-- A frame that goes by without a trace: not running (R231), not accepted (R233), monitor mode (R235), a refused
runt (R236). -/
def rxSilent (s : State) (frame : List Byte) : Bool :=
  !running s.cr || !accepts s frame || monitor s.rcr || (decide (frame.length < s.cfg.runtMin) && !runtsOk s.rcr)

/-- RX, `Deliver(frame, length, errs)` (R230). `errs` outside its domain is no operation (R230, log 9). -/
def execRx (frame : List Byte) (errs : Byte) (s : State) : Host.Outcome State Fault Refusal :=
  if verdictOk errs = false then .refused .verdictOutsideDomain
  else if rxSilent s frame then done (opened s)
  else if errs ≠ 0x00#8 ∧ errorsOk s.rcr = false then done (irqUpdate (rxRefuse errs (opened s)))
  else if pagesFor frame.length < ringAvail s then done (irqUpdate (rxStore frame errs (opened s)))
  else done (irqUpdate (rxOverflow (opened s)))

end Sys2Proof.Machine
end

