-- ==== Sys2Proof/Machine/RemoteDma.lean ====
section
/-!
DEFINITION. The data port of the remote-DMA engine (spec/44_remote_dma.md part 3): rows DRD and DWR.
-/

namespace Sys2Proof.Machine

/-- The bytes one access moves (R307 to R309): `min(1 + DCR.wdsize, rdma_remaining)`. -/
def portCount (s : State) : Nat := min (if wdsize s.dcr then 2 else 1) s.rdmaRemaining.toNat

/-- The cursor and the count after `n` bytes, and the completion when the count reaches zero (R307, R308, R310). -/
def portAdvance (n : Nat) (s : State) : State :=
  let remaining := s.rdmaRemaining - BitVec.ofNat 16 n
  { s with
    remoteDma := s.remoteDma + BitVec.ofNat 16 n
    rdmaRemaining := remaining
    isr := if remaining = 0#16 then s.isr ||| isrRdmaDone else s.isr
    rdmaState := if remaining = 0#16 then .idle else s.rdmaState }

/-- DRD, `DataRead(w)` (R307); outside `reading` a draw of `w` bits and no other effect (R311). -/
def execDrd (w : Width) (s : State) : Host.Outcome State Fault Refusal :=
  if s.rdmaState ≠ .reading then
    done { s with out := ⟨some (portResult (drawn s) w), []⟩, draws := s.draws + 1 }
  else
    let value := portResult (memRead s.cfg s.mem s.remoteDma (portCount s)) w
    done (irqUpdate { portAdvance (portCount s) s with out := ⟨some value, []⟩ })

/-- DWR, `DataWrite(w, v)` (R308); outside `writing` ignored (R311). -/
def execDwr (v : HostVal) (s : State) : Host.Outcome State Fault Refusal :=
  if s.rdmaState ≠ .writing then done (opened s)
  else
    let stored := { opened s with mem := memWrite s.cfg s.mem s.remoteDma (portCount s) (zext16 v) }
    done (irqUpdate (portAdvance (portCount s) stored))

end Sys2Proof.Machine
end

