-- ==== Sys2Proof/Machine/Reset.lean ====
section
/-!
DEFINITION. `HardReset` (spec/70_reset_and_hazards.md R380, R381, R383; row HRESET).
-/

namespace Sys2Proof.Machine

/-- Every field at the value of R381; memory is the draw (R383), `MEM_SIZE` bytes of it. The parameters and `macrom` are
constants; the schedule and the draw counter are not the core's (log 5, log 2). -/
def hardReset (content : List Byte) (s : State) : State :=
  { s with
    cr := { stop := s.cfg.powerupStop, start := false, txPacket := false, rdmaCmd := 0#3, pgsel := 0#2 }
    isr := if s.cfg.powerupStop then isrReset else 0x00#8
    imr := 0x00#8
    dcr := 0x00#8
    tcr := 0x00#8
    tsr := 0x00#8
    rcr := 0x00#8
    rsr := 0x00#8
    localDma := 0x0000#16
    remoteDma := 0x0000#16
    remoteStart := 0x0000#16
    remoteBytes := 0x0000#16
    pageStart := 0x00#8
    pageStop := 0x00#8
    boundPtr := 0x00#8
    currPage := 0x00#8
    txPageStart := 0x00#8
    txBytes := 0x0000#16
    tallycnt0 := 0x00#8
    tallycnt1 := 0x00#8
    tallycnt2 := 0x00#8
    rempktPtr := 0x00#8
    localpktPtr := 0x00#8
    addressCnt := 0x0000#16
    physaddr := s.cfg.macCfg
    mchash := Vector.replicate 8 0x00#8
    rdmaState := .idle
    rdmaRemaining := 0x0000#16
    mem := Memory.ofBytes 0 (content.take s.cfg.memSize) }

/-- HRESET (R380): the reset, then `IrqUpdate()`. -/
def execHreset (content : List Byte) (s : State) : Host.Outcome State Fault Refusal :=
  done (irqUpdate (hardReset content (opened s)))

end Sys2Proof.Machine
end

