-- ==== Sys2Proof/Machine/Dispatch.lean ====
section
/-!
DEFINITION. exec: one arm per constructor of Instr, each a direct call of its meaning.
-/

namespace Sys2Proof.Machine

/-- The meaning of an operation (R6: one step function per operation, applied to the whole state). -/
def exec (i : Instr) (s : State) : Host.Outcome State Fault Refusal :=
  match i with
  | .rdCr w => Sys2Proof.Machine.execRdCr w s
  | .wrCr v => Sys2Proof.Machine.execWrCr v s
  | .rdP0Clda0 w => Sys2Proof.Machine.execRdP0Clda0 w s
  | .rdP0Clda1 w => Sys2Proof.Machine.execRdP0Clda1 w s
  | .rdP0Bnry w => Sys2Proof.Machine.execRdP0Bnry w s
  | .rdP0Tsr w => Sys2Proof.Machine.execRdP0Tsr w s
  | .rdP0Ncr w => Sys2Proof.Machine.execRdP0Ncr w s
  | .rdP0Fifo w => Sys2Proof.Machine.execRdP0Fifo w s
  | .rdP0Isr w => Sys2Proof.Machine.execRdP0Isr w s
  | .rdP0Crda0 w => Sys2Proof.Machine.execRdP0Crda0 w s
  | .rdP0Crda1 w => Sys2Proof.Machine.execRdP0Crda1 w s
  | .rdP0Id0 w => Sys2Proof.Machine.execRdP0Id0 w s
  | .rdP0Id1 w => Sys2Proof.Machine.execRdP0Id1 w s
  | .rdP0Rsr w => Sys2Proof.Machine.execRdP0Rsr w s
  | .rdP0Cntr0 w => Sys2Proof.Machine.execRdP0Cntr0 w s
  | .rdP0Cntr1 w => Sys2Proof.Machine.execRdP0Cntr1 w s
  | .rdP0Cntr2 w => Sys2Proof.Machine.execRdP0Cntr2 w s
  | .wrP0Pstart v => Sys2Proof.Machine.execWrP0Pstart v s
  | .wrP0Pstop v => Sys2Proof.Machine.execWrP0Pstop v s
  | .wrP0Bnry v => Sys2Proof.Machine.execWrP0Bnry v s
  | .wrP0Tpsr v => Sys2Proof.Machine.execWrP0Tpsr v s
  | .wrP0Tbcr0 v => Sys2Proof.Machine.execWrP0Tbcr0 v s
  | .wrP0Tbcr1 v => Sys2Proof.Machine.execWrP0Tbcr1 v s
  | .wrP0Isr v => Sys2Proof.Machine.execWrP0Isr v s
  | .wrP0Rsar0 v => Sys2Proof.Machine.execWrP0Rsar0 v s
  | .wrP0Rsar1 v => Sys2Proof.Machine.execWrP0Rsar1 v s
  | .wrP0Rbcr0 v => Sys2Proof.Machine.execWrP0Rbcr0 v s
  | .wrP0Rbcr1 v => Sys2Proof.Machine.execWrP0Rbcr1 v s
  | .wrP0Rcr v => Sys2Proof.Machine.execWrP0Rcr v s
  | .wrP0Tcr v => Sys2Proof.Machine.execWrP0Tcr v s
  | .wrP0Dcr v => Sys2Proof.Machine.execWrP0Dcr v s
  | .wrP0Imr v => Sys2Proof.Machine.execWrP0Imr v s
  | .rdP1Par0 w => Sys2Proof.Machine.execRdP1Par0 w s
  | .rdP1Par1 w => Sys2Proof.Machine.execRdP1Par1 w s
  | .rdP1Par2 w => Sys2Proof.Machine.execRdP1Par2 w s
  | .rdP1Par3 w => Sys2Proof.Machine.execRdP1Par3 w s
  | .rdP1Par4 w => Sys2Proof.Machine.execRdP1Par4 w s
  | .rdP1Par5 w => Sys2Proof.Machine.execRdP1Par5 w s
  | .wrP1Par0 v => Sys2Proof.Machine.execWrP1Par0 v s
  | .wrP1Par1 v => Sys2Proof.Machine.execWrP1Par1 v s
  | .wrP1Par2 v => Sys2Proof.Machine.execWrP1Par2 v s
  | .wrP1Par3 v => Sys2Proof.Machine.execWrP1Par3 v s
  | .wrP1Par4 v => Sys2Proof.Machine.execWrP1Par4 v s
  | .wrP1Par5 v => Sys2Proof.Machine.execWrP1Par5 v s
  | .rdP1Curr w => Sys2Proof.Machine.execRdP1Curr w s
  | .wrP1Curr v => Sys2Proof.Machine.execWrP1Curr v s
  | .rdP1Mar0 w => Sys2Proof.Machine.execRdP1Mar0 w s
  | .rdP1Mar1 w => Sys2Proof.Machine.execRdP1Mar1 w s
  | .rdP1Mar2 w => Sys2Proof.Machine.execRdP1Mar2 w s
  | .rdP1Mar3 w => Sys2Proof.Machine.execRdP1Mar3 w s
  | .rdP1Mar4 w => Sys2Proof.Machine.execRdP1Mar4 w s
  | .rdP1Mar5 w => Sys2Proof.Machine.execRdP1Mar5 w s
  | .rdP1Mar6 w => Sys2Proof.Machine.execRdP1Mar6 w s
  | .rdP1Mar7 w => Sys2Proof.Machine.execRdP1Mar7 w s
  | .wrP1Mar0 v => Sys2Proof.Machine.execWrP1Mar0 v s
  | .wrP1Mar1 v => Sys2Proof.Machine.execWrP1Mar1 v s
  | .wrP1Mar2 v => Sys2Proof.Machine.execWrP1Mar2 v s
  | .wrP1Mar3 v => Sys2Proof.Machine.execWrP1Mar3 v s
  | .wrP1Mar4 v => Sys2Proof.Machine.execWrP1Mar4 v s
  | .wrP1Mar5 v => Sys2Proof.Machine.execWrP1Mar5 v s
  | .wrP1Mar6 v => Sys2Proof.Machine.execWrP1Mar6 v s
  | .wrP1Mar7 v => Sys2Proof.Machine.execWrP1Mar7 v s
  | .rdP2Pstart w => Sys2Proof.Machine.execRdP2Pstart w s
  | .rdP2Pstop w => Sys2Proof.Machine.execRdP2Pstop w s
  | .rdP2Rnpp w => Sys2Proof.Machine.execRdP2Rnpp w s
  | .rdP2Tpsr w => Sys2Proof.Machine.execRdP2Tpsr w s
  | .rdP2Lnpp w => Sys2Proof.Machine.execRdP2Lnpp w s
  | .rdP2Acu w => Sys2Proof.Machine.execRdP2Acu w s
  | .rdP2Acl w => Sys2Proof.Machine.execRdP2Acl w s
  | .rdP2Off08 w => Sys2Proof.Machine.execRdP2Off08 w s
  | .rdP2Off09 w => Sys2Proof.Machine.execRdP2Off09 w s
  | .rdP2Off0A w => Sys2Proof.Machine.execRdP2Off0A w s
  | .rdP2Off0B w => Sys2Proof.Machine.execRdP2Off0B w s
  | .rdP2Rcr w => Sys2Proof.Machine.execRdP2Rcr w s
  | .rdP2Tcr w => Sys2Proof.Machine.execRdP2Tcr w s
  | .rdP2Dcr w => Sys2Proof.Machine.execRdP2Dcr w s
  | .rdP2Imr w => Sys2Proof.Machine.execRdP2Imr w s
  | .wrP2Pstart v => Sys2Proof.Machine.execWrP2Pstart v s
  | .wrP2Pstop v => Sys2Proof.Machine.execWrP2Pstop v s
  | .wrP2Rnpp v => Sys2Proof.Machine.execWrP2Rnpp v s
  | .wrP2Tpsr v => Sys2Proof.Machine.execWrP2Tpsr v s
  | .wrP2Lnpp v => Sys2Proof.Machine.execWrP2Lnpp v s
  | .wrP2Acu v => Sys2Proof.Machine.execWrP2Acu v s
  | .wrP2Acl v => Sys2Proof.Machine.execWrP2Acl v s
  | .wrP2Off08 v => Sys2Proof.Machine.execWrP2Off08 v s
  | .wrP2Off09 v => Sys2Proof.Machine.execWrP2Off09 v s
  | .wrP2Off0A v => Sys2Proof.Machine.execWrP2Off0A v s
  | .wrP2Off0B v => Sys2Proof.Machine.execWrP2Off0B v s
  | .wrP2Rcr v => Sys2Proof.Machine.execWrP2Rcr v s
  | .wrP2Tcr v => Sys2Proof.Machine.execWrP2Tcr v s
  | .wrP2Dcr v => Sys2Proof.Machine.execWrP2Dcr v s
  | .wrP2Imr v => Sys2Proof.Machine.execWrP2Imr v s
  | .rdP3Off01 w => Sys2Proof.Machine.execRdP3Off01 w s
  | .rdP3Off02 w => Sys2Proof.Machine.execRdP3Off02 w s
  | .rdP3Off03 w => Sys2Proof.Machine.execRdP3Off03 w s
  | .rdP3Off04 w => Sys2Proof.Machine.execRdP3Off04 w s
  | .rdP3Off05 w => Sys2Proof.Machine.execRdP3Off05 w s
  | .rdP3Off06 w => Sys2Proof.Machine.execRdP3Off06 w s
  | .rdP3Off07 w => Sys2Proof.Machine.execRdP3Off07 w s
  | .rdP3Off08 w => Sys2Proof.Machine.execRdP3Off08 w s
  | .rdP3Off09 w => Sys2Proof.Machine.execRdP3Off09 w s
  | .rdP3Off0A w => Sys2Proof.Machine.execRdP3Off0A w s
  | .rdP3Off0B w => Sys2Proof.Machine.execRdP3Off0B w s
  | .rdP3Off0C w => Sys2Proof.Machine.execRdP3Off0C w s
  | .rdP3Off0D w => Sys2Proof.Machine.execRdP3Off0D w s
  | .rdP3Off0E w => Sys2Proof.Machine.execRdP3Off0E w s
  | .rdP3Off0F w => Sys2Proof.Machine.execRdP3Off0F w s
  | .wrP3Off01 v => Sys2Proof.Machine.execWrP3Off01 v s
  | .wrP3Off02 v => Sys2Proof.Machine.execWrP3Off02 v s
  | .wrP3Off03 v => Sys2Proof.Machine.execWrP3Off03 v s
  | .wrP3Off04 v => Sys2Proof.Machine.execWrP3Off04 v s
  | .wrP3Off05 v => Sys2Proof.Machine.execWrP3Off05 v s
  | .wrP3Off06 v => Sys2Proof.Machine.execWrP3Off06 v s
  | .wrP3Off07 v => Sys2Proof.Machine.execWrP3Off07 v s
  | .wrP3Off08 v => Sys2Proof.Machine.execWrP3Off08 v s
  | .wrP3Off09 v => Sys2Proof.Machine.execWrP3Off09 v s
  | .wrP3Off0A v => Sys2Proof.Machine.execWrP3Off0A v s
  | .wrP3Off0B v => Sys2Proof.Machine.execWrP3Off0B v s
  | .wrP3Off0C v => Sys2Proof.Machine.execWrP3Off0C v s
  | .wrP3Off0D v => Sys2Proof.Machine.execWrP3Off0D v s
  | .wrP3Off0E v => Sys2Proof.Machine.execWrP3Off0E v s
  | .wrP3Off0F v => Sys2Proof.Machine.execWrP3Off0F v s
  | .drd w => Sys2Proof.Machine.execDrd w s
  | .dwr v => Sys2Proof.Machine.execDwr v s
  | .rx frame errs => Sys2Proof.Machine.execRx frame errs s
  | .txdone outcome => Sys2Proof.Machine.execTxdone outcome s
  | .hreset content => Sys2Proof.Machine.execHreset content s
  | .crStop rest => Sys2Proof.Machine.execCrStop rest s
  | .crStart high stop => Sys2Proof.Machine.execCrStart high stop s
  | .crXmit high => Sys2Proof.Machine.execCrXmit high s
  | .crRdmaRd pgsel txpStart => Sys2Proof.Machine.execCrRdmaRd pgsel txpStart s
  | .crRdmaWr pgsel txpStart => Sys2Proof.Machine.execCrRdmaWr pgsel txpStart s
  | .crRdmaSend pgsel txpStart => Sys2Proof.Machine.execCrRdmaSend pgsel txpStart s
  | .crRdmaAbort pgsel cmdLow txpStart => Sys2Proof.Machine.execCrRdmaAbort pgsel cmdLow txpStart s
  | .crRdmaAbort0 pgsel txpStart => Sys2Proof.Machine.execCrRdmaAbort0 pgsel txpStart s
  | .crPage pgsel rest => Sys2Proof.Machine.execCrPage pgsel rest s

end Sys2Proof.Machine
end

