-- ==== Sys2Proof/Machine/Step.lean ====
section
/-!
DEFINITION. One step: the oldest pending request is decoded with the register page of that moment and performed.
-/

namespace Sys2Proof.Machine

/-- One step. With nothing pending the machine waits, unchanged (R12; log 1). -/
def step (s : State) : Host.Outcome State Fault Refusal :=
  match s.pending with
  | [] => .next s
  | request :: rest =>
    match decode s.cr.pgsel request with
    | .ok i => exec i { s with pending := rest }
    | .error why => .refused (.undecodable why)

/-- `s` with the operation of an opcode-table word presented next. A selector with `ext = 0` holds the register page
(R101), and the page is `CR.pgsel` at the access (R100), so the page it holds is selected (log 15). -/
def State.withFetchWord (s : State) (nbits w : Nat) : State :=
  { s with
    cr := { s.cr with pgsel := if w % 256 < 0x80 then tablePage w else s.cr.pgsel }
    pending := tableRequest nbits w :: s.pending }

end Sys2Proof.Machine
end

