-- ==== Sys2Proof/Safety.lean ====
section
/-!
DEFINITION. What the statements speak of: the invariants of the core, well-formed rings (R246), the quiescent core (R12),
states with only the result of an operation changed, and runs of operations.
-/

namespace Sys2Proof.Machine

/-! ## Results -/

/-- The state with the result of a read that returned `v` and emitted nothing. -/
abbrev answered (v : HostVal) (s : State) : State := { s with out := ⟨some v, []⟩ }

/-- The state with the result of an operation that returned nothing and emitted nothing. -/
abbrev quiet (s : State) : State := { s with out := Output.silent }

/-- The state at the end of an operation that returned `value` and emitted `events`, the interrupt line then showing whether
a flag is both pending and enabled, and a change of the line emitted last, once (R343, R344). -/
def signalled (value : Option HostVal) (events : List Event) (s : State) : State :=
  { s with
    irqLine := s.isr &&& s.imr != 0#8
    out := ⟨value, events ++ if (s.isr &&& s.imr != 0#8) = s.irqLine then [] else [.irq (s.isr &&& s.imr != 0#8)]⟩ }

/-- The events of a result that went to the interrupt sink. -/
def sinkEvents (o : Output) : List Event := o.events.filter fun
  | .irq _ => true
  | .txFrame _ => false

/-- The frames of a result that went to the backend. -/
def sentFrames (o : Output) : List (List Byte) := o.events.filterMap fun
  | .irq _ => none
  | .txFrame bytes => some bytes

/-! ## Invariants -/

/-- The line shows the line function (R344, invariant). -/
abbrev State.lineSettled (s : State) : Prop := s.irqLine = lineActive s.isr s.imr

/-- Packet memory is in its canonical form and inside the array (R40). -/
abbrev State.memFormed (s : State) : Prop := Memory.wf s.mem = true ∧ Memory.within s.cfg.memSize s.mem = true

/-- Bits that are not stored or that no rule sets read 0 (R111; R22, R26, R28; U10), and so do the registers no rule
changes after a reset (R29, R33). -/
abbrev State.reservedClear (s : State) : Prop :=
  s.dcr &&& 0x80#8 = 0#8 ∧ s.tcr &&& 0xF8#8 = 0#8 ∧ s.rcr &&& 0xC0#8 = 0#8 ∧ s.tsr &&& 0x02#8 = 0#8 ∧
    s.rsr &&& 0xF0#8 = 0#8 ∧ s.isr &&& 0x20#8 = 0#8 ∧ s.localDma = 0#16 ∧ s.tallycnt0 = 0#8 ∧ s.tallycnt1 = 0#8

/-- The remote-DMA engine: an active transfer has bytes left and the class of its state in CR (R301), nothing is left
otherwise, and a stopped core is idle (R306). -/
abbrev State.rdmaFormed (s : State) : Prop :=
  (s.rdmaState = .reading → decodeRdma s.cr.rdmaCmd = .read ∧ s.rdmaRemaining ≠ 0#16) ∧
    (s.rdmaState = .writing → decodeRdma s.cr.rdmaCmd = .write ∧ s.rdmaRemaining ≠ 0#16) ∧
    (rdmaActive s.rdmaState = false → s.rdmaRemaining = 0#16) ∧
    (s.cr.stop = true → s.rdmaState = .idle)

/-- The transmit engine: TSR is 0 while a transmission is pending (R136, R273), holds one of the seven outcomes otherwise
or 0 (R275, R276), and nothing is pending in a stopped core (R209). -/
abbrev State.txFormed (s : State) : Prop :=
  (s.cr.txPacket = true → s.tsr = 0#8) ∧ (s.tsr = 0#8 ∨ txOutcomes.contains s.tsr = true) ∧
    (s.cr.stop = true → s.cr.txPacket = false)

/-- The ROM image is the constant of R36. -/
abbrev State.romFormed (s : State) : Prop := s.macrom = macromImage s.cfg

/-- A well-formed ring (R246). -/
abbrev State.ringFormed (s : State) : Prop :=
  s.pageStart.toNat < s.pageStop.toNat ∧
    s.pageStart.toNat ≤ s.currPage.toNat ∧ s.currPage.toNat < s.pageStop.toNat ∧
    s.pageStart.toNat ≤ s.boundPtr.toNat ∧ s.boundPtr.toNat < s.pageStop.toNat

/-- A quiescent core (R12). -/
abbrev State.quiescent (s : State) : Prop := rdmaActive s.rdmaState = false ∧ s.cr.txPacket = false

/-! ## Steps of the core -/

/-- The operation is a CR write whose value, adapted to 8 bits, is `v` (R113, R201): the row WR_CR, or a row of format
CRVAL whose pattern `v` has (R101). -/
def writesCr (i : Instr) (v : Byte) : Prop := (∃ hv, i = .wrCr hv ∧ low8 hv = v) ∨ crValue i = some v

/-- The CR write of `v` is a step of the model: it is not the command `send` with `stop = 0` under `SEND_MODE = refuse`
(R305). -/
abbrev crPerformed (v : Byte) (s : State) : Prop :=
  v.getLsbD 0 = true ∨ v.extractLsb' 3 3 ≠ 3#3 ∨ s.cfg.sendMode = .inert

/-- A remote-DMA transfer is in progress (R301). -/
abbrev State.transferring (s : State) : Prop := s.rdmaState = .reading ∨ s.rdmaState = .writing

/-- The bytes one data-port access moves (R307 to R309). -/
def unitCount (s : State) : Nat := min (if s.dcr.getLsbD 0 then 2 else 1) s.rdmaRemaining.toNat

/-- A delivery reaches the ring: it passes the filter, monitor and runt checks (R231 to R236), it is not refused for errors
(R237), and it fits (R238). -/
abbrev storesFrame (frame : List Byte) (errs : Byte) (s : State) : Prop :=
  rxSilent s frame = false ∧ (errs = 0#8 ∨ errorsOk s.rcr = true) ∧ pagesFor frame.length < ringAvail s

/-- The operations of a list, one after the other. -/
def runOps : List Instr → State → Host.Outcome State Fault Refusal
  | [], s => .next s
  | i :: rest, s =>
    match exec i s with
    | .next t => runOps rest t
    | .fault r => .fault r
    | .refused r => .refused r

/-- Frames delivered one after the other, each of them stored in the ring (R247). -/
def storesFrames : List (List Byte × Byte) → State → Prop
  | [], _ => True
  | (frame, errs) :: rest, s =>
    verdictOk errs = true ∧ storesFrame frame errs s ∧
      ∀ t, exec (.rx frame errs) s = .next t → storesFrames rest t

/-- The pages a list of frames takes (R247). -/
def pagesOf (frames : List (List Byte × Byte)) : Nat := (frames.map fun f => pagesFor f.1.length).sum

end Sys2Proof.Machine
end

