-- ==== Sys2Proof/Certificates/Slice0/Obligations.lean ====
section
/-!
DEFINITION. The statements for the provers. A docstring names the rules of spec/ a statement formalises. The numeric
encodings (offsets, bit positions, command codes) are the spec's own choices (its decisions D1 to D4; log 11), and so are the
points each docstring names.
-/

open Sys2Proof Sys2Proof.Machine

/-! ## Encoding -/

/-- R100 to R107: a well-formed operation, presented as its encoding while its register page is selected, is decoded to itself,
with every operand at every value; a row of format CRVAL is presented as the CR write that carries it (R101). -/
def Obligations.DecodeOfEncodeIsTheOperation : Prop :=
  ∀ (i : Instr) (page : BitVec 2), i.wellFormed = true → (rowPage i = none ∨ rowPage i = some page) →
    decode page (encode i) = .ok (match crValue i with
      | some v => .wrCr (.byte v)
      | none => i)

/-- R101, R102: what the decoder reads is a well-formed operation whose row stands on the selected page and matches the
request's selector, and the request is the only one that means this operation. -/
def Obligations.DecodedOperationFitsItsRow : Prop :=
  ∀ (page : BitVec 2) (request : Request) (i : Instr), decode page request = .ok i →
    i.wellFormed = true ∧ crValue i = none ∧ (rowPage i = none ∨ rowPage i = some page) ∧
      selector page request &&& (opcodeRow i).2 = (opcodeRow i).1 ∧ encode i = request

/-- R101: "every value of `sel` from 0x00 to 0x7F matches exactly one such row"; no selector matches two rows of the formats REG_RD,
REG_WR and EXT: two operations whose rows it matches are the same row (the same constructor of `Instr`, by its number). The
selectors an operation's row matches are exactly those of its encoding on the pages the row stands on. -/
def Obligations.SelectorMatchesOneRow : Prop :=
  (∀ (sel : Byte) (i j : Instr), crValue i = none → crValue j = none →
    sel &&& (opcodeRow i).2 = (opcodeRow i).1 → sel &&& (opcodeRow j).2 = (opcodeRow j).1 →
    i.ctorIdx = j.ctorIdx ∧ opcodeRow i = opcodeRow j) ∧
  (∀ (sel : Byte) (i : Instr), crValue i = none →
    (sel &&& (opcodeRow i).2 = (opcodeRow i).1 ↔
      ∃ page, (rowPage i = none ∨ rowPage i = some page) ∧ selector page (encode i) = sel)) ∧
  ∀ sel : Byte, sel.toNat < 0x80 → ∃ i, crValue i = none ∧ sel &&& (opcodeRow i).2 = (opcodeRow i).1

/-- R101, the sub-decode of a CR write: the commands a value carries are exactly the rows of format CRVAL that yield it, their
patterns match it, and performing one is performing the CR write (log 7). -/
def Obligations.CommandRegisterSubDecode : Prop :=
  ∀ (v : Byte) (i : Instr),
    (i ∈ crCommands v ↔ crValue i = some v) ∧
      (crValue i = some v → v &&& (opcodeRow i).2 = (opcodeRow i).1 ∧ ∀ s, exec i s = exec (.wrCr (.byte v)) s)

/-- R101, R103 to R107, R117: words written out from the tables, one for every family. -/
def Obligations.WordsFromTheTables : Prop :=
  decode 0#2 (.regRead 0x07 8) = .ok (.rdP0Isr .byte) ∧ decode 0#2 (.regWrite 0x07 8 0x40) = .ok (.wrP0Isr (.byte 0x40#8)) ∧
    decode 1#2 (.regRead 0x07 16) = .ok (.rdP1Curr .word) ∧
    decode 1#2 (.regWrite 0x07 16 0x1247) = .ok (.wrP1Curr (.word 0x1247#16)) ∧
    decode 2#2 (.regRead 0x06 8) = .ok (.rdP2Acu .byte) ∧ decode 2#2 (.regWrite 0x06 8 0xBE) = .ok (.wrP2Acu (.byte 0xBE#8)) ∧
    decode 3#2 (.regRead 0x05 8) = .ok (.rdP3Off05 .byte) ∧ decode 3#2 (.regWrite 0x0F 8 0xFF) = .ok (.wrP3Off0F (.byte 0xFF#8)) ∧
    decode 3#2 (.regRead 0x00 8) = .ok (.rdCr .byte) ∧ decode 3#2 (.regWrite 0x00 8 0x22) = .ok (.wrCr (.byte 0x22#8)) ∧
    decode 0#2 (.dataRead 16) = .ok (.drd .word) ∧ decode 0#2 (.dataWrite 8 0xDE) = .ok (.dwr (.byte 0xDE#8)) ∧
    decode 0#2 (.deliver [0xFF#8] 0x02#8) = .ok (.rx [0xFF#8] 0x02#8) ∧ decode 0#2 (.txComplete 0x01#8) = .ok (.txdone 0x01#8) ∧
    decode 0#2 (.hardReset []) = .ok (.hreset [])

/-- U9 (93_implementation_defined.md), R230, R276: what is no operation of the core is refused by name: an offset above 0x0F, a
width other than 8 or 16, a value wider than the access, a selector R101 gives no operation and a reset content larger than any MEM_SIZE (log 17); a
verdict or an outcome outside its domain (log 9). Stopping there by name is the model's choice. -/
def Obligations.MalformedRequestsAreRefused : Prop :=
  ∀ (page : BitVec 2) (off width value : Nat) (b : Byte) (frame content : List Byte),
    (0x0F < off → decode page (.regRead off width) = .error .badOffset ∧
      decode page (.regWrite off width value) = .error .badOffset) ∧
    (off ≤ 0x0F → width ≠ 8 → width ≠ 16 → decode page (.regRead off width) = .error .badWidth ∧
      decode page (.regWrite off width value) = .error .badWidth) ∧
    (width ≠ 8 → width ≠ 16 → decode page (.dataRead width) = .error .badWidth ∧
      decode page (.dataWrite width value) = .error .badWidth) ∧
    (off ≤ 0x0F → width = 8 ∨ width = 16 → 2 ^ width ≤ value →
      decode page (.regWrite off width value) = .error .badValue ∧ decode page (.dataWrite width value) = .error .badValue) ∧
    (b &&& 0xF1#8 ≠ 0#8 → decode page (.deliver frame b) = .error .badVerdict) ∧
    (b ∉ [0x01#8, 0x04#8, 0x08#8, 0x10#8, 0x20#8, 0x40#8, 0x80#8] → decode page (.txComplete b) = .error .badOutcome) ∧
    (32768 < content.length → decode page (.hardReset content) = .error .badContent) ∧
    decode page (.other b) = .error .badSelector

/-! ## The step -/

/-- R6, R12, R102: a step takes the oldest pending request, decodes it with the register page of that moment, and is the operation
it decodes to; it stops by name at a request that is no operation; with nothing pending it changes nothing (log 1, the model's
own schedule). -/
def Obligations.StepRunsTheDecodedOperation : Prop :=
  ∀ (s : State) (request : Request) (rest : List Request),
    (∀ i, s.pending = request :: rest → decode s.cr.pgsel request = .ok i → step s = exec i { s with pending := rest }) ∧
    (∀ why, s.pending = request :: rest → decode s.cr.pgsel request = .error why → step s = .refused (.undecodable why)) ∧
    (s.pending = [] → step s = .next s)

/-! ## Register reads -/

/-- R133 to R147: the reads of register page 0. -/
def Obligations.Page0ReadsReturnTheirRegister : Prop :=
  ∀ (w : Width) (s : State),
    let shown (r : Byte) : HostVal := match w with
      | .byte => .byte r
      | .word => .word (0x00#8 ++ r)
    exec (.rdP0Clda0 w) s = .next (answered (shown (s.localDma.extractLsb' 0 8)) s) ∧
    exec (.rdP0Clda1 w) s = .next (answered (shown (s.localDma.extractLsb' 8 8)) s) ∧
    exec (.rdP0Bnry w) s = .next (answered (shown s.boundPtr) s) ∧
    exec (.rdP0Tsr w) s = .next (answered (shown s.tsr) s) ∧
    exec (.rdP0Ncr w) s = .next (answered (shown 0x00#8) s) ∧
    exec (.rdP0Fifo w) s = .next (answered (shown 0x00#8) s) ∧
    exec (.rdP0Isr w) s = .next (answered (shown s.isr) s) ∧
    exec (.rdP0Crda0 w) s = .next (answered (shown (s.remoteDma.extractLsb' 0 8)) s) ∧
    exec (.rdP0Crda1 w) s = .next (answered (shown (s.remoteDma.extractLsb' 8 8)) s) ∧
    exec (.rdP0Id0 w) s = .next (answered (shown s.cfg.id0) s) ∧
    exec (.rdP0Id1 w) s = .next (answered (shown s.cfg.id1) s) ∧
    exec (.rdP0Rsr w) s = .next (answered (shown s.rsr) s) ∧
    exec (.rdP0Cntr0 w) s = .next (answered (shown s.tallycnt0) s) ∧
    exec (.rdP0Cntr1 w) s = .next (answered (shown s.tallycnt1) s) ∧
    exec (.rdP0Cntr2 w) s = .next (answered (shown s.tallycnt2) s)

/-- R163, R165, R167; R169 to R184: the reads of register page 1, and those of register page 2 that have a register behind them. -/
def Obligations.Page1And2ReadsReturnTheirRegister : Prop :=
  ∀ (w : Width) (s : State),
    let shown (r : Byte) : HostVal := match w with
      | .byte => .byte r
      | .word => .word (0x00#8 ++ r)
    exec (.rdP1Par0 w) s = .next (answered (shown s.physaddr[0]) s) ∧
    exec (.rdP1Par1 w) s = .next (answered (shown s.physaddr[1]) s) ∧
    exec (.rdP1Par2 w) s = .next (answered (shown s.physaddr[2]) s) ∧
    exec (.rdP1Par3 w) s = .next (answered (shown s.physaddr[3]) s) ∧
    exec (.rdP1Par4 w) s = .next (answered (shown s.physaddr[4]) s) ∧
    exec (.rdP1Par5 w) s = .next (answered (shown s.physaddr[5]) s) ∧
    exec (.rdP1Curr w) s = .next (answered (shown s.currPage) s) ∧
    exec (.rdP1Mar0 w) s = .next (answered (shown s.mchash[0]) s) ∧
    exec (.rdP1Mar1 w) s = .next (answered (shown s.mchash[1]) s) ∧
    exec (.rdP1Mar2 w) s = .next (answered (shown s.mchash[2]) s) ∧
    exec (.rdP1Mar3 w) s = .next (answered (shown s.mchash[3]) s) ∧
    exec (.rdP1Mar4 w) s = .next (answered (shown s.mchash[4]) s) ∧
    exec (.rdP1Mar5 w) s = .next (answered (shown s.mchash[5]) s) ∧
    exec (.rdP1Mar6 w) s = .next (answered (shown s.mchash[6]) s) ∧
    exec (.rdP1Mar7 w) s = .next (answered (shown s.mchash[7]) s) ∧
    exec (.rdP2Pstart w) s = .next (answered (shown s.pageStart) s) ∧
    exec (.rdP2Pstop w) s = .next (answered (shown s.pageStop) s) ∧
    exec (.rdP2Rnpp w) s = .next (answered (shown s.rempktPtr) s) ∧
    exec (.rdP2Tpsr w) s = .next (answered (shown s.txPageStart) s) ∧
    exec (.rdP2Lnpp w) s = .next (answered (shown s.localpktPtr) s) ∧
    exec (.rdP2Acu w) s = .next (answered (shown (s.addressCnt.extractLsb' 8 8)) s) ∧
    exec (.rdP2Acl w) s = .next (answered (shown (s.addressCnt.extractLsb' 0 8)) s) ∧
    exec (.rdP2Rcr w) s = .next (answered (shown s.rcr) s) ∧
    exec (.rdP2Tcr w) s = .next (answered (shown s.tcr) s) ∧
    exec (.rdP2Dcr w) s = .next (answered (shown s.dcr) s) ∧
    exec (.rdP2Imr w) s = .next (answered (shown s.imr) s)

/-- R180, R186: a read of a position with no register (page 2, offsets 0x08 to 0x0B; page 3, offsets 0x01 to 0x0F) completes with
8 bits of a free value (log 3), drawn at the read, and changes nothing else. -/
def Obligations.UndefinedPositionsReadAFreeValue : Prop :=
  ∀ (w : Width) (s : State) (row : Width → Instr),
    row ∈ [Instr.rdP2Off08, Instr.rdP2Off09, Instr.rdP2Off0A, Instr.rdP2Off0B, Instr.rdP3Off01, Instr.rdP3Off02, Instr.rdP3Off03,
      Instr.rdP3Off04, Instr.rdP3Off05, Instr.rdP3Off06, Instr.rdP3Off07, Instr.rdP3Off08, Instr.rdP3Off09, Instr.rdP3Off0A,
      Instr.rdP3Off0B, Instr.rdP3Off0C, Instr.rdP3Off0D, Instr.rdP3Off0E, Instr.rdP3Off0F] →
    let free := (Config.freeValue s.draws).extractLsb' 0 8
    exec (row w) s = .next { s with
      out := ⟨some (match w with
        | .byte => .byte free
        | .word => .word (0x00#8 ++ free)), []⟩
      draws := s.draws + 1 }

/-- R200: a read of CR returns its fields at the positions of R108, with `tx_packet` the pending bit. -/
def Obligations.CommandRegisterReadsBack : Prop :=
  ∀ (w : Width) (s : State), ∃ r : Byte,
    exec (.rdCr w) s = .next (answered (match w with
      | .byte => .byte r
      | .word => .word (0x00#8 ++ r)) s) ∧
    r.getLsbD 0 = s.cr.stop ∧ r.getLsbD 1 = s.cr.start ∧ r.getLsbD 2 = s.cr.txPacket ∧ r.extractLsb' 3 3 = s.cr.rdmaCmd ∧
      r.extractLsb' 6 2 = s.cr.pgsel

/-- R79, R113, R130: every register read, at every page and offset, completes, returns a value of the width of the access whose
high byte is 0, emits no event, and leaves every register and all of memory as they were (a draw is no state of the core). -/
def Obligations.RegisterReadsChangeNothing : Prop :=
  ∀ (i : Instr) (s : State) (off width : Nat), encode i = .regRead off width →
    ∃ (r : Byte) (draws : Nat), exec i s = .next { s with
      out := ⟨some (if width = 8 then .byte r else .word (0#8 ++ r)), []⟩, draws := draws }

/-! ## Register writes -/

/-- R148 to R153, R155 to R161 (R111, R112, R113): the writes of register page 0 that store the adapted value, masked to the
defined bits, or as one half of a 16-bit register; nothing else changes but the interrupt line, which is evaluated last (R131). -/
def Obligations.Page0WritesStoreTheirRegister : Prop :=
  ∀ (v : HostVal) (s : State),
    exec (.wrP0Pstart v) s = .next (signalled none [] { s with pageStart := low8 v }) ∧
    exec (.wrP0Pstop v) s = .next (signalled none [] { s with pageStop := low8 v }) ∧
    exec (.wrP0Bnry v) s = .next (signalled none [] { s with boundPtr := low8 v }) ∧
    exec (.wrP0Tpsr v) s = .next (signalled none [] { s with txPageStart := low8 v }) ∧
    exec (.wrP0Tbcr0 v) s = .next (signalled none [] { s with txBytes := s.txBytes.extractLsb' 8 8 ++ low8 v }) ∧
    exec (.wrP0Tbcr1 v) s = .next (signalled none [] { s with txBytes := low8 v ++ s.txBytes.extractLsb' 0 8 }) ∧
    exec (.wrP0Rsar0 v) s = .next (signalled none [] { s with remoteStart := s.remoteStart.extractLsb' 8 8 ++ low8 v }) ∧
    exec (.wrP0Rsar1 v) s = .next (signalled none [] { s with remoteStart := low8 v ++ s.remoteStart.extractLsb' 0 8 }) ∧
    exec (.wrP0Rbcr0 v) s = .next (signalled none [] { s with remoteBytes := s.remoteBytes.extractLsb' 8 8 ++ low8 v }) ∧
    exec (.wrP0Rbcr1 v) s = .next (signalled none [] { s with remoteBytes := low8 v ++ s.remoteBytes.extractLsb' 0 8 }) ∧
    exec (.wrP0Rcr v) s = .next (signalled none [] { s with rcr := low8 v &&& 0x3F#8 }) ∧
    exec (.wrP0Tcr v) s = .next (signalled none [] { s with tcr := low8 v &&& 0x07#8 }) ∧
    exec (.wrP0Dcr v) s = .next (signalled none [] { s with dcr := low8 v &&& 0x7F#8 })

/-- R154, R348: a write of ISR clears the flags whose bit is written 1, sets none, and lets the line go in the same operation exactly
if it was active and nothing pending is enabled any more. The premise is the invariant of R344. -/
def Obligations.IsrWriteClearsTheNamedFlags : Prop :=
  ∀ (v : HostVal) (s : State), s.lineSettled → ∃ t, exec (.wrP0Isr v) s = .next t ∧
    (∀ k, t.isr.getLsbD k = (s.isr.getLsbD k && !(low8 v).getLsbD k)) ∧
    t.out = ⟨none, if s.irqLine = true ∧ t.isr &&& s.imr = 0#8 then [.irq false] else []⟩ ∧
    t = { s with isr := t.isr, irqLine := s.irqLine && t.isr &&& s.imr != 0#8, out := t.out }

/-- R162, R343, R348: a write of IMR stores all eight bits, and raises or lets go the line at once where the new mask says so. -/
def Obligations.ImrWriteDrivesTheLine : Prop :=
  ∀ (v : HostVal) (s : State), ∃ t, exec (.wrP0Imr v) s = .next t ∧
    t = { s with imr := low8 v, irqLine := t.irqLine, out := t.out } ∧
    (t.irqLine = true ↔ ∃ k, k < 8 ∧ s.isr.getLsbD k = true ∧ (low8 v).getLsbD k = true) ∧
    t.out = ⟨none, if t.irqLine = s.irqLine then [] else [.irq t.irqLine]⟩

/-- R164, R166, R168: the writes of register page 1, all of them plain storage. R172, R175, R177, R179: the diagnostic registers of page 2,
plain storage too; the upper byte of `address_cnt` is the one at the lower offset. -/
def Obligations.Page1And2WritesStoreTheirRegister : Prop :=
  ∀ (v : HostVal) (s : State),
    exec (.wrP1Par0 v) s = .next (signalled none [] { s with physaddr := s.physaddr.set 0 (low8 v) }) ∧
    exec (.wrP1Par1 v) s = .next (signalled none [] { s with physaddr := s.physaddr.set 1 (low8 v) }) ∧
    exec (.wrP1Par2 v) s = .next (signalled none [] { s with physaddr := s.physaddr.set 2 (low8 v) }) ∧
    exec (.wrP1Par3 v) s = .next (signalled none [] { s with physaddr := s.physaddr.set 3 (low8 v) }) ∧
    exec (.wrP1Par4 v) s = .next (signalled none [] { s with physaddr := s.physaddr.set 4 (low8 v) }) ∧
    exec (.wrP1Par5 v) s = .next (signalled none [] { s with physaddr := s.physaddr.set 5 (low8 v) }) ∧
    exec (.wrP1Curr v) s = .next (signalled none [] { s with currPage := low8 v }) ∧
    exec (.wrP1Mar0 v) s = .next (signalled none [] { s with mchash := s.mchash.set 0 (low8 v) }) ∧
    exec (.wrP1Mar1 v) s = .next (signalled none [] { s with mchash := s.mchash.set 1 (low8 v) }) ∧
    exec (.wrP1Mar2 v) s = .next (signalled none [] { s with mchash := s.mchash.set 2 (low8 v) }) ∧
    exec (.wrP1Mar3 v) s = .next (signalled none [] { s with mchash := s.mchash.set 3 (low8 v) }) ∧
    exec (.wrP1Mar4 v) s = .next (signalled none [] { s with mchash := s.mchash.set 4 (low8 v) }) ∧
    exec (.wrP1Mar5 v) s = .next (signalled none [] { s with mchash := s.mchash.set 5 (low8 v) }) ∧
    exec (.wrP1Mar6 v) s = .next (signalled none [] { s with mchash := s.mchash.set 6 (low8 v) }) ∧
    exec (.wrP1Mar7 v) s = .next (signalled none [] { s with mchash := s.mchash.set 7 (low8 v) }) ∧
    exec (.wrP2Rnpp v) s = .next (signalled none [] { s with rempktPtr := low8 v }) ∧
    exec (.wrP2Lnpp v) s = .next (signalled none [] { s with localpktPtr := low8 v }) ∧
    exec (.wrP2Acu v) s = .next (signalled none [] { s with addressCnt := low8 v ++ s.addressCnt.extractLsb' 0 8 }) ∧
    exec (.wrP2Acl v) s = .next (signalled none [] { s with addressCnt := s.addressCnt.extractLsb' 8 8 ++ low8 v })

/-- R185, R187, R131: a write to a read-only alias or an empty position of page 2, or to page 3, is accepted and changes nothing; the
premise is the invariant of R344, without which the closing `IrqUpdate()` could still move the line. -/
def Obligations.IgnoredWritesChangeNothing : Prop :=
  ∀ (v : HostVal) (s : State) (row : HostVal → Instr), s.lineSettled →
    row ∈ [Instr.wrP2Pstart, Instr.wrP2Pstop, Instr.wrP2Tpsr, Instr.wrP2Off08, Instr.wrP2Off09, Instr.wrP2Off0A, Instr.wrP2Off0B,
      Instr.wrP2Rcr, Instr.wrP2Tcr, Instr.wrP2Dcr, Instr.wrP2Imr, Instr.wrP3Off01, Instr.wrP3Off02, Instr.wrP3Off03, Instr.wrP3Off04,
      Instr.wrP3Off05, Instr.wrP3Off06, Instr.wrP3Off07, Instr.wrP3Off08, Instr.wrP3Off09, Instr.wrP3Off0A, Instr.wrP3Off0B,
      Instr.wrP3Off0C, Instr.wrP3Off0D, Instr.wrP3Off0E, Instr.wrP3Off0F] →
    exec (row v) s = .next (quiet s)

/-- R188, R111: what a write stores, the next read of the register returns, masked to the defined bits: `bound_ptr` at its own offset,
the configuration registers and ring bounds through their page-2 aliases, `curr_page` on page 1, the two 8-bit diagnostic
registers on page 2. The CR write that changes the page in between leaves all of them alone (`CommandRegisterWriteFrame`). -/
def Obligations.WriteThenReadReturnsTheDefinedBits : Prop :=
  ∀ (v : HostVal) (w : Width) (s : State) (wr : HostVal → Instr) (rd : Width → Instr) (mask : Byte),
    (wr, rd, mask) ∈ [(Instr.wrP0Bnry, Instr.rdP0Bnry, 0xFF#8), (Instr.wrP0Rcr, Instr.rdP2Rcr, 0x3F#8),
      (Instr.wrP0Tcr, Instr.rdP2Tcr, 0x07#8), (Instr.wrP0Dcr, Instr.rdP2Dcr, 0x7F#8), (Instr.wrP0Imr, Instr.rdP2Imr, 0xFF#8),
      (Instr.wrP0Pstart, Instr.rdP2Pstart, 0xFF#8), (Instr.wrP0Pstop, Instr.rdP2Pstop, 0xFF#8),
      (Instr.wrP0Tpsr, Instr.rdP2Tpsr, 0xFF#8), (Instr.wrP1Curr, Instr.rdP1Curr, 0xFF#8),
      (Instr.wrP2Rnpp, Instr.rdP2Rnpp, 0xFF#8), (Instr.wrP2Lnpp, Instr.rdP2Lnpp, 0xFF#8),
      (Instr.wrP2Acu, Instr.rdP2Acu, 0xFF#8), (Instr.wrP2Acl, Instr.rdP2Acl, 0xFF#8),
      (Instr.wrP1Par0, Instr.rdP1Par0, 0xFF#8), (Instr.wrP1Par1, Instr.rdP1Par1, 0xFF#8), (Instr.wrP1Par2, Instr.rdP1Par2, 0xFF#8),
      (Instr.wrP1Par3, Instr.rdP1Par3, 0xFF#8), (Instr.wrP1Par4, Instr.rdP1Par4, 0xFF#8), (Instr.wrP1Par5, Instr.rdP1Par5, 0xFF#8),
      (Instr.wrP1Mar0, Instr.rdP1Mar0, 0xFF#8), (Instr.wrP1Mar1, Instr.rdP1Mar1, 0xFF#8), (Instr.wrP1Mar2, Instr.rdP1Mar2, 0xFF#8),
      (Instr.wrP1Mar3, Instr.rdP1Mar3, 0xFF#8), (Instr.wrP1Mar4, Instr.rdP1Mar4, 0xFF#8), (Instr.wrP1Mar5, Instr.rdP1Mar5, 0xFF#8),
      (Instr.wrP1Mar6, Instr.rdP1Mar6, 0xFF#8), (Instr.wrP1Mar7, Instr.rdP1Mar7, 0xFF#8)] →
    ∃ t, runOps [wr v, rd w] s = .next t ∧ t.out.value = some (match w with
      | .byte => .byte (low8 v &&& mask)
      | .word => .word (0x00#8 ++ (low8 v &&& mask)))

/-! ## The command register -/

/-- R201, R203 to R206, R387: a CR write that is a step of the model completes; it stores every field, also the raw command, on every
page; `tx_packet` is kept, cleared by a stop, set by an accepted trigger. The rows CR.START and CR.PAGE in particular: the one sets
`start`, so that the core runs unless the same write stops it; the other selects the register page. -/
def Obligations.CommandRegisterWriteStoresEveryField : Prop :=
  (∀ (i : Instr) (v : Byte) (s : State), writesCr i v → crPerformed v s → ∃ t, exec i s = .next t ∧
    t.cr.stop = v.getLsbD 0 ∧ t.cr.start = v.getLsbD 1 ∧ t.cr.pgsel = v.extractLsb' 6 2 ∧ t.cr.rdmaCmd = v.extractLsb' 3 3 ∧
    t.cr.txPacket = (!v.getLsbD 0 && (s.cr.txPacket || (v.getLsbD 1 && v.getLsbD 2)))) ∧
  (∀ (high : BitVec 6) (stop : BitVec 1) (s : State), crPerformed (high ++ 1#1 ++ stop) s →
    ∃ t, exec (.crStart high stop) s = .next t ∧ t.cr.start = true ∧ t.cr.stop = (stop == 1#1) ∧ running t.cr = (stop == 0#1)) ∧
  ∀ (pgsel : BitVec 2) (rest : BitVec 6) (s : State), crPerformed (pgsel ++ rest) s →
    ∃ t, exec (.crPage pgsel rest) s = .next t ∧ t.cr.pgsel = pgsel

/-- R201, R209, R382: what a CR write can change: CR, TSR, ISR, the interrupt line, the remote-DMA engine, and its own result. Every
other register, the parameters and all of packet memory stay. -/
def Obligations.CommandRegisterWriteFrame : Prop :=
  ∀ (i : Instr) (v : Byte) (s t : State), writesCr i v → exec i s = .next t →
    t = { s with cr := t.cr, tsr := t.tsr, isr := t.isr, irqLine := t.irqLine, remoteDma := t.remoteDma,
                 rdmaRemaining := t.rdmaRemaining, rdmaState := t.rdmaState, out := t.out }

/-- R202, R207, R209, R277, R306: a CR write with bit 0 set performs the soft reset, every time: it cancels a pending transmission
without a status, idles the remote-DMA engine, sets `ISR.reset`, stores the other fields, issues no command, and changes nothing
else. The row CR.STOP is such a write. -/
def Obligations.StopPerformsTheSoftReset : Prop :=
  ∀ (i : Instr) (v : Byte) (s : State), ((∃ hv, i = .wrCr hv ∧ low8 hv = v) ∨ ∃ rest : BitVec 7, i = .crStop rest ∧ v = rest ++ 1#1) →
    v.getLsbD 0 = true →
    exec i s = .next (signalled none [] { s with
      cr := { stop := true, start := v.getLsbD 1, txPacket := false, rdmaCmd := v.extractLsb' 3 3, pgsel := v.extractLsb' 6 2 }
      rdmaState := .idle
      rdmaRemaining := 0#16
      isr := s.isr ||| 0x80#8 })

/-- R206, R270 to R273, R279: a CR write with `txp = 1`, `sta = 1`, `stp = 0` while no transmission is pending hands exactly
`tx_bytes` bytes to the backend, byte `i` being what packet memory holds at the chip address `256 * tx_page_start + i`, modulo 2^16
(R71, R72: the cell the address maps to, `SINK_BYTE` outside the window); then a transmission is pending, TSR reads 0, so `tx_ok` is
not yet set, and no ISR flag but `rdma_done` can change. The row CR.XMIT is such a write. -/
def Obligations.TransmitTriggerHandsOverTheFrame : Prop :=
  ∀ (i : Instr) (v : Byte) (s : State),
    ((∃ hv, i = .wrCr hv ∧ low8 hv = v) ∨ ∃ high : BitVec 5, i = .crXmit high ∧ v = high ++ 0b110#3) →
    v &&& 0x07#8 = 0x06#8 → s.cr.txPacket = false → crPerformed v s →
    let byteAt (a : Word) : Byte :=
      let a1 := if s.cfg.memWrap = 0 then a.toNat else a.toNat % s.cfg.memWrap
      if s.cfg.memStart.toNat ≤ a1 ∧ a1 < s.cfg.memStart.toNat + s.cfg.memSize then Memory.read s.mem (a1 - s.cfg.memStart.toNat)
      else s.cfg.sinkByte
    ∃ t frame, exec i s = .next t ∧ sentFrames t.out = [frame] ∧ frame.length = s.txBytes.toNat ∧
      (∀ k, k < s.txBytes.toNat → frame[k]? = some (byteAt (BitVec.ofNat 16 (256 * s.txPageStart.toNat + k)))) ∧
      t.cr.txPacket = true ∧ t.tsr = 0x00#8 ∧ t.isr ||| 0x40#8 = s.isr ||| 0x40#8

/-- R274, whole, of a CR write of either width: where the core is not running after the write, bit 2 of the value means nothing (the write
is the write of the value without it, nothing is handed off, no transmission becomes pending); where one is pending, nor does it
then; and no CR write but a stop ends a pending transmission. -/
def Obligations.RefusedTriggerDoesNothing : Prop :=
  ∀ (hv : HostVal) (v : Byte) (s t : State), low8 hv = v → exec (.wrCr hv) s = .next t →
    (v.getLsbD 1 = false ∨ v.getLsbD 0 = true ∨ s.cr.txPacket = true →
      (∀ hv', low8 hv' = v &&& 0xFB#8 → exec (.wrCr hv') s = .next t) ∧ sentFrames t.out = [] ∧ t.tsr = s.tsr) ∧
    (v.getLsbD 1 = false ∨ v.getLsbD 0 = true → s.cr.txPacket = false → t.cr.txPacket = false) ∧
    (s.cr.txPacket = true → v.getLsbD 0 = false → t.cr.txPacket = true) ∧
    (v = 0x26#8 → crByte s.cr = 0x26#8 → s.lineSettled → t.out = Output.silent ∧ crByte t.cr = 0x26#8)

/-- R301, R302, R303 (D16): a CR write with `stop = 0` whose command is `read` or `write` starts a transfer if the class changes or none
is in progress: the cursor and the count are loaded, and the engine moves in the direction of the command, or, for a count of
zero, completes at once with `rdma_done`. Memory is not touched, and no other ISR flag changes. The rows CR.RDMA.RD and
CR.RDMA.WR are such writes. -/
def Obligations.RemoteDmaCommandStartsATransfer : Prop :=
  ∀ (i : Instr) (v : Byte) (moving : RdmaState) (s : State),
    ((∃ hv, i = .wrCr hv ∧ low8 hv = v) ∨ (∃ p x, i = .crRdmaRd p x ∧ v = crRdmaRdValue p x) ∨
      ∃ p x, i = .crRdmaWr p x ∧ v = crRdmaWrValue p x) →
    (v &&& 0x39#8 = 0x08#8 ∧ moving = .reading ∧ (s.cr.rdmaCmd ≠ 1#3 ∨ ¬ s.transferring)) ∨
      (v &&& 0x39#8 = 0x10#8 ∧ moving = .writing ∧ (s.cr.rdmaCmd ≠ 2#3 ∨ ¬ s.transferring)) →
    ∃ t, exec i s = .next t ∧ t.remoteDma = s.remoteStart ∧ t.rdmaRemaining = s.remoteBytes ∧ t.mem = s.mem ∧
      (s.remoteBytes ≠ 0#16 → t.rdmaState = moving ∧ t.isr = s.isr) ∧
      (s.remoteBytes = 0#16 → t.rdmaState = .idle ∧ t.isr = s.isr ||| 0x40#8)

/-- R301, R205, R387: a CR write with `stop = 0` that repeats the class of the transfer in progress leaves that transfer alone: the host
can change the register page during it. -/
def Obligations.RepeatedCommandKeepsTheTransfer : Prop :=
  ∀ (i : Instr) (v : Byte) (s : State), writesCr i v →
    (v &&& 0x39#8 = 0x08#8 ∧ s.cr.rdmaCmd = 1#3 ∨ v &&& 0x39#8 = 0x10#8 ∧ s.cr.rdmaCmd = 2#3) → s.transferring →
    ∃ t, exec i s = .next t ∧ t.rdmaState = s.rdmaState ∧ t.rdmaRemaining = s.rdmaRemaining ∧ t.remoteDma = s.remoteDma ∧
      t.isr = s.isr

/-- R304, whole: a CR write with `stop = 0` of the class `abort` ends the transfer if the class changes or one is in progress, with the
cursor reloaded and the count discarded; otherwise it changes nothing of the engine, not even the cursor. `rdma_done` is neither
set nor cleared, and the bytes already moved stay. The rows CR.RDMA.ABORT and CR.RDMA.ABORT0 are such writes. -/
def Obligations.AbortDiscardsTheTransfer : Prop :=
  ∀ (i : Instr) (v : Byte) (s : State),
    ((∃ hv, i = .wrCr hv ∧ low8 hv = v) ∨ (∃ p c x, i = .crRdmaAbort p c x ∧ v = crRdmaAbortValue p c x) ∨
      ∃ p x, i = .crRdmaAbort0 p x ∧ v = crRdmaAbort0Value p x) →
    (v &&& 0x21#8 = 0x20#8 ∨ v &&& 0x39#8 = 0x00#8) →
    ∃ t, exec i s = .next t ∧ t.isr = s.isr ∧ t.mem = s.mem ∧
      (decodeRdma s.cr.rdmaCmd ≠ .abort ∨ s.transferring →
        t.rdmaState = .aborted ∧ t.rdmaRemaining = 0#16 ∧ t.remoteDma = s.remoteStart) ∧
      (decodeRdma s.cr.rdmaCmd = .abort → ¬ s.transferring →
        t.rdmaState = s.rdmaState ∧ t.rdmaRemaining = s.rdmaRemaining ∧ t.remoteDma = s.remoteDma)

/-- R305 (D17), log 6: the command `send` with `stop = 0`. Under `SEND_MODE = refuse` it is no step of the model, by name. Under `inert`
it acts as an abort whose class is its own, moves no data, touches neither memory nor `bound_ptr`, and is stored as written. The row
CR.RDMA.SEND is such a write. -/
def Obligations.SendActsAsItsModeSays : Prop :=
  ∀ (i : Instr) (v : Byte) (s : State),
    ((∃ hv, i = .wrCr hv ∧ low8 hv = v) ∨ ∃ p x, i = .crRdmaSend p x ∧ v = crRdmaSendValue p x) → v &&& 0x39#8 = 0x18#8 →
    (s.cfg.sendMode = .refuse → exec i s = .refused .sendCommand) ∧
    (s.cfg.sendMode = .inert → ∃ t, exec i s = .next t ∧ t.cr.rdmaCmd = 3#3 ∧ t.isr = s.isr ∧ t.mem = s.mem ∧ t.boundPtr = s.boundPtr ∧
      (s.cr.rdmaCmd ≠ 3#3 ∨ s.transferring →
        t.rdmaState = .aborted ∧ t.rdmaRemaining = 0#16 ∧ t.remoteDma = s.remoteStart) ∧
      (s.cr.rdmaCmd = 3#3 → ¬ s.transferring →
        t.rdmaState = s.rdmaState ∧ t.rdmaRemaining = s.rdmaRemaining ∧ t.remoteDma = s.remoteDma))

/-! ## The data port -/

/-- R307, R309, R310, with R71 and R72: a data-port read in state `reading` returns the byte at the cursor (the cell its chip
address maps to, wrapped at `MEM_WRAP`, or `SINK_BYTE` outside the window), or in word mode with two bytes left the byte there and,
as the high byte, the byte after it, presented at the width of the access; the cursor advances and the count falls by the bytes
moved, and the access that brings it to zero sets `rdma_done` and returns to `idle`. The premise that bytes are left is the
invariant `StepKeepsRemoteDmaFormed`. -/
def Obligations.DataReadMovesTheCursor : Prop :=
  ∀ (w : Width) (s : State), s.rdmaState = .reading → s.rdmaRemaining ≠ 0#16 →
    let byteAt (a : Word) : Byte :=
      let a1 := if s.cfg.memWrap = 0 then a.toNat else a.toNat % s.cfg.memWrap
      if s.cfg.memStart.toNat ≤ a1 ∧ a1 < s.cfg.memStart.toNat + s.cfg.memSize then Memory.read s.mem (a1 - s.cfg.memStart.toNat)
      else s.cfg.sinkByte
    let n := unitCount s
    let low := byteAt s.remoteDma
    let high := if n = 2 then byteAt (s.remoteDma + 1#16) else 0x00#8
    exec (.drd w) s = .next (signalled (some (match w with
        | .byte => .byte low
        | .word => .word (high ++ low))) [] { s with
      remoteDma := s.remoteDma + BitVec.ofNat 16 n
      rdmaRemaining := BitVec.ofNat 16 (s.rdmaRemaining.toNat - n)
      isr := if s.rdmaRemaining.toNat = n then s.isr ||| 0x40#8 else s.isr
      rdmaState := if s.rdmaRemaining.toNat = n then .idle else .reading })

/-- R308, R309, R310: a data-port write in state `writing` stores the low byte at the cursor, and in word mode with two bytes left the
high byte after it (0 for an 8-bit access); the cursor, the count and the completion are those of a read. -/
def Obligations.DataWriteMovesTheCursor : Prop :=
  ∀ (v : HostVal) (s : State), s.rdmaState = .writing → s.rdmaRemaining ≠ 0#16 →
    let n := unitCount s
    let low := low8 v
    let high : Byte := match v with
      | .byte _ => 0x00#8
      | .word x => x.extractLsb' 8 8
    let stored := writeByte s.cfg s.mem s.remoteDma low
    exec (.dwr v) s = .next (signalled none [] { s with
      mem := if n = 2 then writeByte s.cfg stored (s.remoteDma + 1#16) high else stored
      remoteDma := s.remoteDma + BitVec.ofNat 16 n
      rdmaRemaining := BitVec.ofNat 16 (s.rdmaRemaining.toNat - n)
      isr := if s.rdmaRemaining.toNat = n then s.isr ||| 0x40#8 else s.isr
      rdmaState := if s.rdmaRemaining.toNat = n then .idle else .writing })

/-- R71: a chip address maps to a cell of the array exactly if, wrapped at `MEM_WRAP`, it lies in the window, and then to its
distance from `MEM_START`. R73, R308: a data-port write changes no byte of packet memory but those at the addresses it moves, each
of them translated on its own; the byte at such an address, where no later byte of the access lands on the same cell, is the byte of
the value. -/
def Obligations.DataWriteStoresOnlyItsBytes : Prop :=
  (∀ (c : Config) (a : Word) (k : Nat),
    let a1 := if c.memWrap = 0 then a.toNat else a.toNat % c.memWrap
    chipAddr c a = some k ↔ c.memStart.toNat ≤ a1 ∧ a1 < c.memStart.toNat + c.memSize ∧ k = a1 - c.memStart.toNat) ∧
  ∀ (v : HostVal) (s t : State) (k : Nat), s.rdmaState = .writing → exec (.dwr v) s = .next t →
    ((∀ j, j < unitCount s → chipAddr s.cfg (s.remoteDma + BitVec.ofNat 16 j) ≠ some k) →
      Memory.read t.mem k = Memory.read s.mem k) ∧
    (s.memFormed → ∀ j, j < unitCount s → chipAddr s.cfg (s.remoteDma + BitVec.ofNat 16 j) = some k →
      (∀ j', j < j' → j' < unitCount s → chipAddr s.cfg (s.remoteDma + BitVec.ofNat 16 j') ≠ some k) →
      Memory.read t.mem k = (zext16 v).extractLsb' (8 * j) 8)

/-- R311, R12: outside its state the data port moves nothing: a write is accepted and ignored; a read returns a free value of the width
of the access (log 3) and changes nothing else. -/
def Obligations.DataPortOutsideATransferMovesNothing : Prop :=
  ∀ (s : State),
    (∀ v, s.rdmaState ≠ .writing → exec (.dwr v) s = .next (quiet s)) ∧
    ∀ w, s.rdmaState ≠ .reading → ∃ value, exec (.drd w) s = .next { s with out := ⟨some value, []⟩, draws := s.draws + 1 } ∧
      value = match w with
        | .byte => .byte ((Config.freeValue s.draws).extractLsb' 0 8)
        | .word => .word (Config.freeValue s.draws)

/-- R312 in either mode, for writes of either width, R302, R308 to R310: from a started write, `n` data-port writes of a transfer that still
has bytes for each of them move `n` units, cut down to what remains: the bytes of the values, low byte first (in byte mode the low
byte alone; the high byte of an 8-bit access is 0), stand at the addresses from the cursor on, in that order, and nothing else in
memory changes; `rdma_done` is set by the access that brings the count to zero and by no earlier one. -/
def Obligations.WriteTransferMovesExactlyItsBytes : Prop :=
  ∀ (values : List HostVal) (s : State), s.rdmaState = .writing →
    let unit := if s.dcr.getLsbD 0 then 2 else 1
    let bytes := values.flatMap fun v => List.take unit (match v with
      | .byte b => [b, 0x00#8]
      | .word x => [x.extractLsb' 0 8, x.extractLsb' 8 8])
    values ≠ [] → (values.length - 1) * unit < s.rdmaRemaining.toNat →
    ∃ t, runOps (values.map fun v => .dwr v) s = .next t ∧
      t.rdmaRemaining.toNat = s.rdmaRemaining.toNat - values.length * unit ∧
      t.remoteDma = s.remoteDma + BitVec.ofNat 16 (min (values.length * unit) s.rdmaRemaining.toNat) ∧
      t.mem = writeBytes s.cfg (fun j => s.remoteDma + BitVec.ofNat 16 j) 0 s.mem (bytes.take s.rdmaRemaining.toNat) ∧
      (values.length * unit < s.rdmaRemaining.toNat → t.rdmaState = .writing ∧ t.isr = s.isr) ∧
      (s.rdmaRemaining.toNat ≤ values.length * unit → t.rdmaState = .idle ∧ t.isr = s.isr ||| 0x40#8)

/-- R312 in either mode, for reads: `n` data-port reads of a transfer that still has bytes for each of them move `n` units, cut down to
what remains, and the completion is that of the access that brings the count to zero. -/
def Obligations.ReadTransferMovesExactlyItsBytes : Prop :=
  ∀ (w : Width) (n : Nat) (s : State), s.rdmaState = .reading →
    let unit := if s.dcr.getLsbD 0 then 2 else 1
    0 < n → (n - 1) * unit < s.rdmaRemaining.toNat →
    ∃ t, runOps (List.replicate n (.drd w)) s = .next t ∧ t.mem = s.mem ∧
      t.rdmaRemaining.toNat = s.rdmaRemaining.toNat - n * unit ∧
      t.remoteDma = s.remoteDma + BitVec.ofNat 16 (min (n * unit) s.rdmaRemaining.toNat) ∧
      (n * unit < s.rdmaRemaining.toNat → t.rdmaState = .reading ∧ t.isr = s.isr) ∧
      (s.rdmaRemaining.toNat ≤ n * unit → t.rdmaState = .idle ∧ t.isr = s.isr ||| 0x40#8)

/-! ## The receive engine -/

/-- R231, whole: a frame for a core that is not running is dropped silently; so it is after a stop, which sets `ISR.reset`, and after a
hard reset with `POWERUP_STOP = false`, until a CR write sets `start` with `stop` clear. -/
def Obligations.FramesAreDroppedWhileNotRunning : Prop :=
  (∀ (frame : List Byte) (errs : Byte) (s : State), verdictOk errs = true → s.cr.stop = true ∨ s.cr.start = false →
    exec (.rx frame errs) s = .next (quiet s)) ∧
  (∀ (rest : BitVec 7) (frame : List Byte) (errs : Byte) (s : State), verdictOk errs = true →
    ∃ t, exec (.crStop rest) s = .next t ∧ t.isr.getLsbD 7 = true ∧ exec (.rx frame errs) t = .next (quiet t)) ∧
  (∀ (i : Instr) (v : Byte) (frame : List Byte) (errs : Byte) (s t : State), writesCr i v → exec i s = .next t → verdictOk errs = true →
    ¬ (v.getLsbD 1 = true ∧ v.getLsbD 0 = false) → exec (.rx frame errs) t = .next (quiet t)) ∧
  ∀ (content frame : List Byte) (errs : Byte) (s : State), verdictOk errs = true → s.cfg.powerupStop = false →
    ∃ t, exec (.hreset content) s = .next t ∧ t.cr.start = false ∧ exec (.rx frame errs) t = .next (quiet t)

/-- R232 to R236: the filter, both ways. A frame is dropped without a trace by a running core too if no test of the filter accepts
it (`promisc`; and, of a frame of at least six bytes, its first six being the station address, or all ones with `broadcast`, or
hashing to a set bit with `multicast`), or in monitor mode, or if it is a runt and runts are not accepted. Each of the four tests by
itself lets a frame of a running core pass to validation (`rxSilent` false), outside monitor mode, unless it is a refused runt. R35,
R234: hash bit `k` is bit `k mod 8` of `mchash[k div 8]`, and under `McHash` = `crc` (log 14: the parameter may leave it open) the
hash is bits 31:26 of the CRC over the bits of the address, least significant bit of each byte first. -/
def Obligations.FilterDropsAndAccepts : Prop :=
  (∀ dst : List Byte, mcHash .crc dst = BitVec.extractLsb' 26 6
    ((dst.flatMap fun b => (List.range 8).map fun j => b.getLsbD j).foldl (fun crc bit =>
      if crc.getLsbD 31 != bit then ((crc <<< 1) ^^^ 0x04C11DB6#32) ||| 1#32 else crc <<< 1) 0xFFFFFFFF#32)) ∧
  (∀ (mchash : Vector Byte 8) (k : BitVec 6),
    hashBit mchash k = (mchash.toList.getD (k.toNat / 8) 0x00#8).getLsbD (k.toNat % 8)) ∧
  (∀ (frame : List Byte) (errs : Byte) (s : State), verdictOk errs = true →
    ((s.rcr.getLsbD 4 = false ∧ (frame.length < 6 ∨
        (frame.take 6 ≠ s.physaddr.toList ∧
          ¬ (s.rcr.getLsbD 2 = true ∧ frame.take 6 = [0xFF#8, 0xFF#8, 0xFF#8, 0xFF#8, 0xFF#8, 0xFF#8]) ∧
          ¬ (s.rcr.getLsbD 3 = true ∧ hashBit s.mchash (mcHash s.cfg.mcHash (frame.take 6)) = true)))) ∨
      s.rcr.getLsbD 5 = true ∨ (frame.length < s.cfg.runtMin ∧ s.rcr.getLsbD 1 = false)) →
    exec (.rx frame errs) s = .next (quiet s)) ∧
  ∀ (frame : List Byte) (s : State),
    (s.rcr.getLsbD 4 = true ∨ (6 ≤ frame.length ∧
      (frame.take 6 = s.physaddr.toList ∨
        (s.rcr.getLsbD 2 = true ∧ frame.take 6 = [0xFF#8, 0xFF#8, 0xFF#8, 0xFF#8, 0xFF#8, 0xFF#8]) ∨
        (s.rcr.getLsbD 3 = true ∧ hashBit s.mchash (mcHash s.cfg.mcHash (frame.take 6)) = true)))) →
    s.cr.start = true → s.cr.stop = false → s.rcr.getLsbD 5 = false → (s.cfg.runtMin ≤ frame.length ∨ s.rcr.getLsbD 1 = true) →
    rxSilent s frame = false

/-- R237, R230: a frame that reaches validation with errors while `errors_ok = 0` puts its verdict in RSR and sets `rx_err`, and nothing
else changes; a verdict outside the domain of R230 is refused by name (log 9). -/
def Obligations.ErrorFramesAreRefused : Prop :=
  ∀ (frame : List Byte) (errs : Byte) (s : State),
    (verdictOk errs = true → rxSilent s frame = false → errs ≠ 0x00#8 → s.rcr.getLsbD 0 = false →
      exec (.rx frame errs) s = .next (signalled none [] { s with rsr := errs, isr := s.isr ||| 0x04#8 })) ∧
    (errs &&& 0xF1#8 ≠ 0x00#8 → exec (.rx frame errs) s = .refused .verdictOutsideDomain)

/-- R238, R239: a frame that reaches the space check and needs at least as many pages as there are from `curr_page` forward to `bound_ptr`
is dropped: the missed-packet tally is incremented modulo 256, `overwrite` is set, and nothing else changes. -/
def Obligations.OverflowCountsAndDropsTheFrame : Prop :=
  ∀ (frame : List Byte) (errs : Byte) (s : State), verdictOk errs = true → rxSilent s frame = false →
    (errs = 0x00#8 ∨ s.rcr.getLsbD 0 = true) → ringAvail s ≤ (frame.length + 4 + 255) / 256 →
    exec (.rx frame errs) s = .next (signalled none [] { s with
      tallycnt2 := BitVec.ofNat 8 (s.tallycnt2.toNat + 1), isr := s.isr ||| 0x10#8 })

/-- R238 and its corner cases 1, 2, 3 and 5: the space of a well-formed ring is the distance from `curr_page` forward to `bound_ptr`, the
whole ring where the two are equal; it is never more than the ring; an empty ring has none; so neither an empty ring nor a ring of
one page ever stores a frame, nor does any ring store one too long for the 16-bit count of its header. -/
def Obligations.RingSpaceIsTheDistanceToTheBoundary : Prop :=
  ∀ (s : State),
    (s.ringFormed → ringAvail s =
      if s.currPage.toNat < s.boundPtr.toNat then s.boundPtr.toNat - s.currPage.toNat
      else s.boundPtr.toNat + (s.pageStop.toNat - s.pageStart.toNat) - s.currPage.toNat) ∧
    ringAvail s ≤ s.pageStop.toNat - s.pageStart.toNat ∧
    (s.pageStop.toNat ≤ s.pageStart.toNat → ringAvail s = 0) ∧
    ∀ frame errs, storesFrame frame errs s → s.pageStart.toNat + 2 ≤ s.pageStop.toNat ∧ frame.length + 4 < 65536

/-- R240 to R245, the completion of `Deliver` for every frame whose verdict is in the domain of R230 and that reaches the ring (R231 to
R238, `storesFrame`): its header and bytes are written to the ring addresses one after the other (R242; what they are and where
they stand is StoredFrameStandsInTheRing), `curr_page` advances around the ring, RSR is replaced as a whole, `pkt_rx` or, for a
frame with errors, `rx_err` is set, and nothing else changes. -/
def Obligations.StoredFrameAdvancesTheRing : Prop :=
  ∀ (frame : List Byte) (errs : Byte) (s : State), verdictOk errs = true → storesFrame frame errs s →
    exec (.rx frame errs) s = .next (signalled none [] { s with
      mem := writeBytes s.cfg (ringAddr s) 0 s.mem (rxBytes s frame errs)
      currPage := BitVec.ofNat 8 (let n := s.currPage.toNat + (frame.length + 4 + 255) / 256
        if s.pageStop.toNat ≤ n then n - (s.pageStop.toNat - s.pageStart.toNat) else n)
      rsr := if errs = 0x00#8 then 0x01#8 else errs
      isr := if errs = 0x00#8 then s.isr ||| 0x01#8 else s.isr ||| 0x04#8 })

/-- R114, R241, R242: the header and the frame stand in the ring. Byte `j` of them goes to `256 * curr_page + j`, wrapped at `page_stop`
back to `page_start` (`ringAddr`), and is there afterwards where no later byte landed on the same cell; the header is status, new
`curr_page`, and the count `length + 4` low byte first, its first two bytes in the order of `RXHDR_ORDER`; every other byte of
memory is as before. -/
def Obligations.StoredFrameStandsInTheRing : Prop :=
  ∀ (frame : List Byte) (errs : Byte) (s t : State) (k : Nat), verdictOk errs = true → storesFrame frame errs s →
    exec (.rx frame errs) s = .next t →
    ((∀ j, j < frame.length + 4 → chipAddr s.cfg (ringAddr s j) ≠ some k) → Memory.read t.mem k = Memory.read s.mem k) ∧
    (s.memFormed → ∀ j b, ((match s.cfg.rxhdrOrder with
        | .statusFirst => [t.rsr, t.currPage]
        | .nextFirst => [t.currPage, t.rsr]) ++
        [BitVec.ofNat 8 (frame.length + 4), BitVec.ofNat 8 ((frame.length + 4) / 256)] ++ frame)[j]? = some b →
      chipAddr s.cfg (ringAddr s j) = some k →
      (∀ j', j < j' → j' < frame.length + 4 → chipAddr s.cfg (ringAddr s j') ≠ some k) → Memory.read t.mem k = b)

/-- R242: the addresses of a stored frame in a well-formed ring: they stay in the ring's pages, wrap at most once, and no two bytes of the
frame share one. -/
def Obligations.RingAddressesStayInTheRing : Prop :=
  ∀ (frame : List Byte) (errs : Byte) (s : State) (i j : Nat), s.ringFormed → storesFrame frame errs s →
    i < frame.length + 4 → j < frame.length + 4 →
    256 * s.pageStart.toNat ≤ (ringAddr s i).toNat ∧ (ringAddr s i).toNat < 256 * s.pageStop.toNat ∧
      (ringAddr s i = ringAddr s j → i = j) ∧
      ((ringAddr s i).toNat = 256 * s.currPage.toNat + i ∨
        (ringAddr s i).toNat + 256 * (s.pageStop.toNat - s.pageStart.toNat) = 256 * s.currPage.toNat + i)

/-- R243, whole: a stored frame advances `curr_page` by `ceil((4 + length) / 256)` pages, wrapping, to the value that stands in its header
as the next-packet pointer; and no delivery of any frame changes `bound_ptr`, `page_start` or `page_stop`. -/
def Obligations.EngineAdvancesOnlyTheCurrentPage : Prop :=
  ∀ (frame : List Byte) (errs : Byte) (s t : State), exec (.rx frame errs) s = .next t →
    t.boundPtr = s.boundPtr ∧ t.pageStart = s.pageStart ∧ t.pageStop = s.pageStop ∧
    (storesFrame frame errs s →
      t.currPage = nextPage s ((4 + frame.length + 255) / 256) ∧
      (rxHeader s.cfg.rxhdrOrder t.rsr t.currPage (BitVec.ofNat 16 (frame.length + 4)) ++ frame) = rxBytes s frame errs ∧
      t.mem = writeBytes s.cfg (ringAddr s) 0 s.mem (rxBytes s frame errs)) ∧
    (¬ storesFrame frame errs s → t.currPage = s.currPage)

/-- R245, whole: a delivery emits `Irq(1)` if and only if the line was inactive and a pending flag is enabled now, and otherwise no event.
The premise is the invariant of R344. -/
def Obligations.DeliveryRaisesTheLineOnce : Prop :=
  ∀ (frame : List Byte) (errs : Byte) (s t : State), s.lineSettled → exec (.rx frame errs) s = .next t →
    t.out = ⟨none, if s.irqLine = false ∧ t.isr &&& t.imr ≠ 0x00#8 then [.irq true] else []⟩

/-- R246, R31: every operation keeps the ring well formed, except a host write of `page_start`, `page_stop`, `bound_ptr` or
`curr_page` (the host sets the ring up) and a hard reset; a frame that is stored never brings `curr_page` onto `bound_ptr`; one that
would is dropped and counted. -/
def Obligations.RingNeverFillsUp : Prop :=
  (∀ (i : Instr) (s t : State), s.ringFormed → exec i s = .next t →
    (∀ v, i ≠ .wrP0Pstart v ∧ i ≠ .wrP0Pstop v ∧ i ≠ .wrP0Bnry v ∧ i ≠ .wrP1Curr v) → (∀ content, i ≠ .hreset content) →
    t.ringFormed) ∧
  ∀ (frame : List Byte) (errs : Byte) (s t : State), s.ringFormed → exec (.rx frame errs) s = .next t →
    (storesFrame frame errs s → t.currPage ≠ t.boundPtr) ∧
      (rxSilent s frame = false → (errs = 0x00#8 ∨ s.rcr.getLsbD 0 = true) → ¬ storesFrame frame errs s →
        t.tallycnt2 = s.tallycnt2 + 1#8)

/-- R247: after any number of frames, each of them stored, `curr_page` has moved by the sum of their pages, modulo the ring. -/
def Obligations.FramesAdvanceTheRingByTheirPages : Prop :=
  ∀ (frames : List (List Byte × Byte)) (s : State), s.ringFormed → storesFrames frames s →
    ∃ t, runOps (frames.map fun f => .rx f.1 f.2) s = .next t ∧
      (t.currPage.toNat - s.pageStart.toNat) % (s.pageStop.toNat - s.pageStart.toNat) =
        (s.currPage.toNat - s.pageStart.toNat + (frames.map fun f => (f.1.length + 4 + 255) / 256).sum) %
          (s.pageStop.toNat - s.pageStart.toNat)

/-! ## Completion of a transmission -/

/-- R275, whole (with the outcomes of R276): `TxComplete` with a transmission pending, running or not, puts the outcome in TSR, clears
`CR.tx_packet`, sets `pkt_tx` for `tx_ok` and `tx_err` for a failure, and signals; after it a new trigger is accepted. With
none pending it has no effect: that is the model's choice (log 8) of the two treatments R275 allows, the other being a refusal. -/
def Obligations.CompletionReportsTheOutcome : Prop :=
  ∀ (outcome : Byte) (s : State),
    (s.cr.txPacket = true →
      (outcome = 0x01#8 ∨
        s.tcr.extractLsb' 1 2 ≠ 0#2 ∧ outcome ∈ [0x04#8, 0x08#8, 0x10#8, 0x20#8, 0x40#8, 0x80#8]) →
      ∃ t, exec (.txdone outcome) s = .next t ∧
        t = signalled none [] { s with
          tsr := outcome, cr := { s.cr with txPacket := false }, isr := if outcome = 0x01#8 then s.isr ||| 0x02#8 else s.isr ||| 0x08#8 } ∧
        ∃ u, exec (.wrCr (.byte 0x26#8)) t = .next u ∧ (sentFrames u.out).length = 1) ∧
    (s.cr.txPacket = false → exec (.txdone outcome) s = .next (quiet s)) ∧
    ∀ page, selector page (encode (.txdone outcome)) = 0xA0#8

/-- R276 (D28), log 9: what is no completion is refused by name: with a transmission pending, an outcome other than `tx_ok` where
`TCR.loop_cntl = 0`, or one that is none of the seven. -/
def Obligations.DisallowedOutcomesAreRefused : Prop :=
  ∀ (outcome : Byte) (s : State), s.cr.txPacket = true → outcome ≠ 0x01#8 →
    (s.tcr.extractLsb' 1 2 = 0#2 ∨ outcome ∉ [0x04#8, 0x08#8, 0x10#8, 0x20#8, 0x40#8, 0x80#8]) →
    exec (.txdone outcome) s = .refused .outcomeNotAllowed

/-! ## Reset -/

/-- R380, R381, R383: the hard reset, in any state: every register at the value of the table, for both settings of `POWERUP_STOP`; the
constants kept; memory the content given, byte for byte, zero beyond it (log 5); a pending completion gone; the line let go, with one
event if it was active. -/
def Obligations.HardResetZeroesTheRegisters : Prop :=
  ∀ (content : List Byte) (s : State), ∃ t, exec (.hreset content) s = .next t ∧
    (∀ k, k < s.cfg.memSize → Memory.read t.mem k = content.getD k 0x00#8) ∧
    t = {
      cfg := s.cfg
      cr := { stop := s.cfg.powerupStop, start := false, txPacket := false, rdmaCmd := 0#3, pgsel := 0#2 }
      isr := if s.cfg.powerupStop then 0x80#8 else 0x00#8
      imr := 0x00#8, dcr := 0x00#8, tcr := 0x00#8, tsr := 0x00#8, rcr := 0x00#8, rsr := 0x00#8
      localDma := 0x0000#16, remoteDma := 0x0000#16, remoteStart := 0x0000#16, remoteBytes := 0x0000#16
      pageStart := 0x00#8, pageStop := 0x00#8, boundPtr := 0x00#8, currPage := 0x00#8
      txPageStart := 0x00#8, txBytes := 0x0000#16
      tallycnt0 := 0x00#8, tallycnt1 := 0x00#8, tallycnt2 := 0x00#8
      rempktPtr := 0x00#8, localpktPtr := 0x00#8, addressCnt := 0x0000#16
      physaddr := s.cfg.macCfg
      mchash := #v[0x00#8, 0x00#8, 0x00#8, 0x00#8, 0x00#8, 0x00#8, 0x00#8, 0x00#8]
      macrom := s.macrom
      rdmaState := .idle, rdmaRemaining := 0x0000#16
      irqLine := false
      mem := t.mem
      pending := s.pending
      out := ⟨none, if s.irqLine = true then [.irq false] else []⟩
      draws := s.draws }

/-- R380, R381, R384, R36, for every configuration: the state after attach, every register at its value in the table of R381, and every
invariant of the core holds there. `State.reset` is it at the configuration of log 4. Memory with nothing listed (log 5), the empty
schedule (log 1), the empty result (log 2) and the draw counter at 0 (log 3) are the model's own choices. -/
def Obligations.AttachedCoreMeetsTheInvariants : Prop :=
  State.reset = State.attach Config.initial ∧
  ∀ (c : Config), let s := State.attach c
    s.memFormed ∧ s.lineSettled ∧ s.reservedClear ∧ s.rdmaFormed ∧ s.txFormed ∧ s.romFormed ∧ s.quiescent ∧ ringAvail s = 0 ∧
      s = {
        cfg := c
        cr := { stop := c.powerupStop, start := false, txPacket := false, rdmaCmd := 0#3, pgsel := 0#2 }
        isr := if c.powerupStop then 0x80#8 else 0x00#8
        imr := 0x00#8, dcr := 0x00#8, tcr := 0x00#8, tsr := 0x00#8, rcr := 0x00#8, rsr := 0x00#8
        localDma := 0x0000#16, remoteDma := 0x0000#16, remoteStart := 0x0000#16, remoteBytes := 0x0000#16
        pageStart := 0x00#8, pageStop := 0x00#8, boundPtr := 0x00#8, currPage := 0x00#8
        txPageStart := 0x00#8, txBytes := 0x0000#16
        tallycnt0 := 0x00#8, tallycnt1 := 0x00#8, tallycnt2 := 0x00#8
        rempktPtr := 0x00#8, localpktPtr := 0x00#8, addressCnt := 0x0000#16
        physaddr := c.macCfg
        mchash := #v[0x00#8, 0x00#8, 0x00#8, 0x00#8, 0x00#8, 0x00#8, 0x00#8, 0x00#8]
        macrom := s.macrom
        rdmaState := .idle, rdmaRemaining := 0x0000#16
        irqLine := false
        mem := []
        pending := []
        out := ⟨none, []⟩
        draws := 0 } ∧
      (∀ i : Fin 6, c.evenMac = true → s.macrom[2 * i.val] = c.macCfg[i.val] ∧ s.macrom[2 * i.val + 1] = c.macCfg[i.val]) ∧
      (∀ i : Fin 6, c.evenMac = false → s.macrom[i.val] = c.macCfg[i.val]) ∧
      ∀ i : Fin 32, (if c.evenMac then 12 else 6) ≤ i.val → s.macrom[i.val] = c.romFill

/-! ## Invariants of every step, from every state -/

/-- R40, R71, R78: every step keeps packet memory in its canonical form and inside the array. -/
def Obligations.StepKeepsMemoryFormed : Prop :=
  ∀ s t : State, s.memFormed → step s = .next t → t.memFormed

/-- R38, R344, R345: every operation leaves the line showing whether a pending flag is enabled, and the sink is called exactly when the line
changes, once, with the new level. -/
def Obligations.EveryOperationSettlesTheLine : Prop :=
  ∀ (i : Instr) (s t : State), s.lineSettled → exec i s = .next t →
    t.lineSettled ∧ sinkEvents t.out = if t.irqLine = s.irqLine then [] else [.irq t.irqLine]

/-- R301, R306, R207: every step keeps the remote-DMA engine well formed: `reading` or `writing` only under that class and with bytes left,
nothing left otherwise, and `idle` whenever the core is stopped. -/
def Obligations.StepKeepsRemoteDmaFormed : Prop :=
  ∀ s t : State, s.rdmaFormed → step s = .next t → t.rdmaFormed

/-- R136, R273, R275, R277: every step keeps the transmit engine well formed: TSR is 0 while a transmission is pending, always 0 or one of
the seven outcomes, and a stopped core has none pending. -/
def Obligations.StepKeepsTransmitFormed : Prop :=
  ∀ s t : State, s.txFormed → step s = .next t → t.txFormed

/-- R111, U10, R29, R33: every step keeps the reserved and never-set bits of the configuration and status registers 0, and the registers no
rule changes at 0. -/
def Obligations.StepKeepsReservedBitsClear : Prop :=
  ∀ s t : State, s.reservedClear → step s = .next t → t.reservedClear

/-! ## Whole-machine rules -/

/-- R6, R7, R340: every well-formed operation completes in every state, but for two forms the spec gives no step, refused by name: a CR
write of `send` with `stop = 0` under `SEND_MODE = refuse` (R305), and, of a pending transmission outside loopback, an outcome other
than `tx_ok` (R276; refusing it by name is the model's choice, log 9). A third form R275 allows a model to refuse, `TxComplete` with
nothing pending, completes without effect: the model's choice too (log 8). There is no fault. -/
def Obligations.EveryOperationCompletes : Prop :=
  ∀ (i : Instr) (s : State), i.wellFormed = true →
    (∃ t, exec i s = .next t) ∨
    (∃ v, writesCr i v ∧ v &&& 0x39#8 = 0x18#8 ∧ s.cfg.sendMode = .refuse ∧ exec i s = .refused .sendCommand) ∨
    ∃ outcome, i = .txdone outcome ∧ outcome ≠ 0x01#8 ∧ s.cr.txPacket = true ∧ s.tcr.extractLsb' 1 2 = 0#2 ∧
      exec i s = .refused .outcomeNotAllowed

/-- R8, R36, R102, R204, R382: the parameters and the ROM image never change; only a CR write or a hard reset changes the register page. -/
def Obligations.OnlyCrWritesChangeThePage : Prop :=
  ∀ (i : Instr) (s t : State), exec i s = .next t →
    t.cfg = s.cfg ∧ t.macrom = s.macrom ∧
      (t.cr.pgsel = s.cr.pgsel ∨ (∃ v, writesCr i v ∧ t.cr.pgsel = v.extractLsb' 6 2) ∨
        ∃ content, i = .hreset content ∧ t.cr.pgsel = 0#2)

/-- R342, R346, R83: one operation sets at most one ISR flag, never `cnt_oflow`; a flag is cleared only by a write of ISR that names it, or by a
hard reset. -/
def Obligations.FlagsAreSetOneAtATime : Prop :=
  ∀ (i : Instr) (s t : State), exec i s = .next t →
    t.isr &&& ~~~s.isr ∈ [0x00#8, 0x01#8, 0x02#8, 0x04#8, 0x08#8, 0x10#8, 0x40#8, 0x80#8] ∧
    ∀ k, s.isr.getLsbD k = true → t.isr.getLsbD k = false →
      (∃ v, i = .wrP0Isr v ∧ (low8 v).getLsbD k = true) ∨ ∃ content, i = .hreset content

/-- R270, R272, R279: a frame leaves only by a CR write that triggers, one at most; and TSR comes to show `tx_ok` only by a completion that
reports it. -/
def Obligations.OnlyATriggerSendsAFrame : Prop :=
  ∀ (i : Instr) (s t : State), exec i s = .next t →
    (sentFrames t.out = [] ∨ (sentFrames t.out).length = 1 ∧ s.cr.txPacket = false ∧ t.cr.txPacket = true ∧
      ∃ v, writesCr i v ∧ v &&& 0x07#8 = 0x06#8) ∧
    (t.tsr.getLsbD 0 = true → s.tsr.getLsbD 0 = true ∨ i = .txdone 0x01#8)

/-- R40, R79, R391: packet memory changes only by a data-port write in state `writing`, by a delivery that is stored, or by a hard reset; and
the ring bounds and `bound_ptr` only by a write of their own register or by a hard reset. -/
def Obligations.WhatMayChangeMemoryAndTheRing : Prop :=
  ∀ (i : Instr) (s t : State), exec i s = .next t →
    (t.mem = s.mem ∨ ((∃ v, i = .dwr v) ∧ s.rdmaState = .writing) ∨ (∃ frame errs, i = .rx frame errs ∧ storesFrame frame errs s) ∨
      ∃ content, i = .hreset content) ∧
    (t.boundPtr = s.boundPtr ∨ (∃ v, i = .wrP0Bnry v) ∨ ∃ content, i = .hreset content) ∧
    (t.pageStart = s.pageStart ∨ (∃ v, i = .wrP0Pstart v) ∨ ∃ content, i = .hreset content) ∧
    (t.pageStop = s.pageStop ∨ (∃ v, i = .wrP0Pstop v) ∨ ∃ content, i = .hreset content)

/-! ## Construction -/

/-- R356, R8, R341 (its last row), R384: construction fails exactly on parameters outside the validity conditions of R8, and then no instance
exists; on all others it gives the attached core with those parameters; and no instance, whatever it has done, has invalid ones. -/
def Obligations.InvalidConfigurationsHaveNoInstance : Prop :=
  (∀ p : Params,
    (if (p.memSize = 8192 ∨ p.memSize = 32768) ∧ p.memStart.toNat + p.memSize ≤ 65536 ∧ p.memWrap ≤ 65536 ∧ 0 < p.txLatency
      then ∃ s, State.construct p = some s ∧ s = State.attach s.cfg ∧ s.cfg.toParams = p
      else State.construct p = none)) ∧
  ∀ s : State, (s.cfg.memSize = 8192 ∨ s.cfg.memSize = 32768) ∧ s.cfg.memStart.toNat + s.cfg.memSize ≤ 65536 ∧
    s.cfg.memWrap ≤ 65536 ∧ 0 < s.cfg.txLatency
end

