-- ==== Sys2Proof/Laws/State.lean ====
section
/-!
SUPPORT. The state after each named update, field by field.
-/

namespace Sys2Proof.Machine

/-! The start of an operation. -/

@[simp] theorem opened_cfg (s : State) : (opened s).cfg = s.cfg := rfl
@[simp] theorem opened_cr (s : State) : (opened s).cr = s.cr := rfl
@[simp] theorem opened_isr (s : State) : (opened s).isr = s.isr := rfl
@[simp] theorem opened_imr (s : State) : (opened s).imr = s.imr := rfl
@[simp] theorem opened_dcr (s : State) : (opened s).dcr = s.dcr := rfl
@[simp] theorem opened_tcr (s : State) : (opened s).tcr = s.tcr := rfl
@[simp] theorem opened_tsr (s : State) : (opened s).tsr = s.tsr := rfl
@[simp] theorem opened_rcr (s : State) : (opened s).rcr = s.rcr := rfl
@[simp] theorem opened_rsr (s : State) : (opened s).rsr = s.rsr := rfl
@[simp] theorem opened_localDma (s : State) : (opened s).localDma = s.localDma := rfl
@[simp] theorem opened_remoteDma (s : State) : (opened s).remoteDma = s.remoteDma := rfl
@[simp] theorem opened_remoteStart (s : State) : (opened s).remoteStart = s.remoteStart := rfl
@[simp] theorem opened_remoteBytes (s : State) : (opened s).remoteBytes = s.remoteBytes := rfl
@[simp] theorem opened_pageStart (s : State) : (opened s).pageStart = s.pageStart := rfl
@[simp] theorem opened_pageStop (s : State) : (opened s).pageStop = s.pageStop := rfl
@[simp] theorem opened_boundPtr (s : State) : (opened s).boundPtr = s.boundPtr := rfl
@[simp] theorem opened_currPage (s : State) : (opened s).currPage = s.currPage := rfl
@[simp] theorem opened_txPageStart (s : State) : (opened s).txPageStart = s.txPageStart := rfl
@[simp] theorem opened_txBytes (s : State) : (opened s).txBytes = s.txBytes := rfl
@[simp] theorem opened_tallycnt0 (s : State) : (opened s).tallycnt0 = s.tallycnt0 := rfl
@[simp] theorem opened_tallycnt1 (s : State) : (opened s).tallycnt1 = s.tallycnt1 := rfl
@[simp] theorem opened_tallycnt2 (s : State) : (opened s).tallycnt2 = s.tallycnt2 := rfl
@[simp] theorem opened_rempktPtr (s : State) : (opened s).rempktPtr = s.rempktPtr := rfl
@[simp] theorem opened_localpktPtr (s : State) : (opened s).localpktPtr = s.localpktPtr := rfl
@[simp] theorem opened_addressCnt (s : State) : (opened s).addressCnt = s.addressCnt := rfl
@[simp] theorem opened_physaddr (s : State) : (opened s).physaddr = s.physaddr := rfl
@[simp] theorem opened_mchash (s : State) : (opened s).mchash = s.mchash := rfl
@[simp] theorem opened_macrom (s : State) : (opened s).macrom = s.macrom := rfl
@[simp] theorem opened_rdmaState (s : State) : (opened s).rdmaState = s.rdmaState := rfl
@[simp] theorem opened_rdmaRemaining (s : State) : (opened s).rdmaRemaining = s.rdmaRemaining := rfl
@[simp] theorem opened_irqLine (s : State) : (opened s).irqLine = s.irqLine := rfl
@[simp] theorem opened_mem (s : State) : (opened s).mem = s.mem := rfl
@[simp] theorem opened_pending (s : State) : (opened s).pending = s.pending := rfl
@[simp] theorem opened_out (s : State) : (opened s).out = Output.silent := rfl
@[simp] theorem opened_draws (s : State) : (opened s).draws = s.draws := rfl

/-! The interrupt update (R344). -/

@[simp] theorem irqUpdate_cfg (s : State) : (irqUpdate s).cfg = s.cfg := rfl
@[simp] theorem irqUpdate_cr (s : State) : (irqUpdate s).cr = s.cr := rfl
@[simp] theorem irqUpdate_isr (s : State) : (irqUpdate s).isr = s.isr := rfl
@[simp] theorem irqUpdate_imr (s : State) : (irqUpdate s).imr = s.imr := rfl
@[simp] theorem irqUpdate_dcr (s : State) : (irqUpdate s).dcr = s.dcr := rfl
@[simp] theorem irqUpdate_tcr (s : State) : (irqUpdate s).tcr = s.tcr := rfl
@[simp] theorem irqUpdate_tsr (s : State) : (irqUpdate s).tsr = s.tsr := rfl
@[simp] theorem irqUpdate_rcr (s : State) : (irqUpdate s).rcr = s.rcr := rfl
@[simp] theorem irqUpdate_rsr (s : State) : (irqUpdate s).rsr = s.rsr := rfl
@[simp] theorem irqUpdate_localDma (s : State) : (irqUpdate s).localDma = s.localDma := rfl
@[simp] theorem irqUpdate_remoteDma (s : State) : (irqUpdate s).remoteDma = s.remoteDma := rfl
@[simp] theorem irqUpdate_remoteStart (s : State) : (irqUpdate s).remoteStart = s.remoteStart := rfl
@[simp] theorem irqUpdate_remoteBytes (s : State) : (irqUpdate s).remoteBytes = s.remoteBytes := rfl
@[simp] theorem irqUpdate_pageStart (s : State) : (irqUpdate s).pageStart = s.pageStart := rfl
@[simp] theorem irqUpdate_pageStop (s : State) : (irqUpdate s).pageStop = s.pageStop := rfl
@[simp] theorem irqUpdate_boundPtr (s : State) : (irqUpdate s).boundPtr = s.boundPtr := rfl
@[simp] theorem irqUpdate_currPage (s : State) : (irqUpdate s).currPage = s.currPage := rfl
@[simp] theorem irqUpdate_txPageStart (s : State) : (irqUpdate s).txPageStart = s.txPageStart := rfl
@[simp] theorem irqUpdate_txBytes (s : State) : (irqUpdate s).txBytes = s.txBytes := rfl
@[simp] theorem irqUpdate_tallycnt0 (s : State) : (irqUpdate s).tallycnt0 = s.tallycnt0 := rfl
@[simp] theorem irqUpdate_tallycnt1 (s : State) : (irqUpdate s).tallycnt1 = s.tallycnt1 := rfl
@[simp] theorem irqUpdate_tallycnt2 (s : State) : (irqUpdate s).tallycnt2 = s.tallycnt2 := rfl
@[simp] theorem irqUpdate_rempktPtr (s : State) : (irqUpdate s).rempktPtr = s.rempktPtr := rfl
@[simp] theorem irqUpdate_localpktPtr (s : State) : (irqUpdate s).localpktPtr = s.localpktPtr := rfl
@[simp] theorem irqUpdate_addressCnt (s : State) : (irqUpdate s).addressCnt = s.addressCnt := rfl
@[simp] theorem irqUpdate_physaddr (s : State) : (irqUpdate s).physaddr = s.physaddr := rfl
@[simp] theorem irqUpdate_mchash (s : State) : (irqUpdate s).mchash = s.mchash := rfl
@[simp] theorem irqUpdate_macrom (s : State) : (irqUpdate s).macrom = s.macrom := rfl
@[simp] theorem irqUpdate_rdmaState (s : State) : (irqUpdate s).rdmaState = s.rdmaState := rfl
@[simp] theorem irqUpdate_rdmaRemaining (s : State) : (irqUpdate s).rdmaRemaining = s.rdmaRemaining := rfl
@[simp] theorem irqUpdate_irqLine (s : State) : (irqUpdate s).irqLine = lineActive s.isr s.imr := rfl
@[simp] theorem irqUpdate_mem (s : State) : (irqUpdate s).mem = s.mem := rfl
@[simp] theorem irqUpdate_pending (s : State) : (irqUpdate s).pending = s.pending := rfl
@[simp] theorem irqUpdate_out (s : State) : (irqUpdate s).out = { s.out with events := s.out.events ++ irqEvents s.irqLine (lineActive s.isr s.imr) } := rfl
@[simp] theorem irqUpdate_draws (s : State) : (irqUpdate s).draws = s.draws := rfl

/-! The soft reset (R209). -/

@[simp] theorem softReset_cfg (s : State) : (softReset s).cfg = s.cfg := rfl
@[simp] theorem softReset_cr (s : State) : (softReset s).cr = { s.cr with stop := true, txPacket := false } := rfl
@[simp] theorem softReset_isr (s : State) : (softReset s).isr = s.isr ||| isrReset := rfl
@[simp] theorem softReset_imr (s : State) : (softReset s).imr = s.imr := rfl
@[simp] theorem softReset_dcr (s : State) : (softReset s).dcr = s.dcr := rfl
@[simp] theorem softReset_tcr (s : State) : (softReset s).tcr = s.tcr := rfl
@[simp] theorem softReset_tsr (s : State) : (softReset s).tsr = s.tsr := rfl
@[simp] theorem softReset_rcr (s : State) : (softReset s).rcr = s.rcr := rfl
@[simp] theorem softReset_rsr (s : State) : (softReset s).rsr = s.rsr := rfl
@[simp] theorem softReset_localDma (s : State) : (softReset s).localDma = s.localDma := rfl
@[simp] theorem softReset_remoteDma (s : State) : (softReset s).remoteDma = s.remoteDma := rfl
@[simp] theorem softReset_remoteStart (s : State) : (softReset s).remoteStart = s.remoteStart := rfl
@[simp] theorem softReset_remoteBytes (s : State) : (softReset s).remoteBytes = s.remoteBytes := rfl
@[simp] theorem softReset_pageStart (s : State) : (softReset s).pageStart = s.pageStart := rfl
@[simp] theorem softReset_pageStop (s : State) : (softReset s).pageStop = s.pageStop := rfl
@[simp] theorem softReset_boundPtr (s : State) : (softReset s).boundPtr = s.boundPtr := rfl
@[simp] theorem softReset_currPage (s : State) : (softReset s).currPage = s.currPage := rfl
@[simp] theorem softReset_txPageStart (s : State) : (softReset s).txPageStart = s.txPageStart := rfl
@[simp] theorem softReset_txBytes (s : State) : (softReset s).txBytes = s.txBytes := rfl
@[simp] theorem softReset_tallycnt0 (s : State) : (softReset s).tallycnt0 = s.tallycnt0 := rfl
@[simp] theorem softReset_tallycnt1 (s : State) : (softReset s).tallycnt1 = s.tallycnt1 := rfl
@[simp] theorem softReset_tallycnt2 (s : State) : (softReset s).tallycnt2 = s.tallycnt2 := rfl
@[simp] theorem softReset_rempktPtr (s : State) : (softReset s).rempktPtr = s.rempktPtr := rfl
@[simp] theorem softReset_localpktPtr (s : State) : (softReset s).localpktPtr = s.localpktPtr := rfl
@[simp] theorem softReset_addressCnt (s : State) : (softReset s).addressCnt = s.addressCnt := rfl
@[simp] theorem softReset_physaddr (s : State) : (softReset s).physaddr = s.physaddr := rfl
@[simp] theorem softReset_mchash (s : State) : (softReset s).mchash = s.mchash := rfl
@[simp] theorem softReset_macrom (s : State) : (softReset s).macrom = s.macrom := rfl
@[simp] theorem softReset_rdmaState (s : State) : (softReset s).rdmaState = .idle := rfl
@[simp] theorem softReset_rdmaRemaining (s : State) : (softReset s).rdmaRemaining = 0#16 := rfl
@[simp] theorem softReset_irqLine (s : State) : (softReset s).irqLine = s.irqLine := rfl
@[simp] theorem softReset_mem (s : State) : (softReset s).mem = s.mem := rfl
@[simp] theorem softReset_pending (s : State) : (softReset s).pending = s.pending := rfl
@[simp] theorem softReset_out (s : State) : (softReset s).out = s.out := rfl
@[simp] theorem softReset_draws (s : State) : (softReset s).draws = s.draws := rfl

/-! The start of a transfer (R302, R303). -/

@[simp] theorem rdmaStart_cfg (moving : RdmaState) (s : State) : (rdmaStart moving s).cfg = s.cfg := rfl
@[simp] theorem rdmaStart_cr (moving : RdmaState) (s : State) : (rdmaStart moving s).cr = s.cr := rfl
@[simp] theorem rdmaStart_isr (moving : RdmaState) (s : State) : (rdmaStart moving s).isr = if s.remoteBytes = 0#16 then s.isr ||| isrRdmaDone else s.isr := rfl
@[simp] theorem rdmaStart_imr (moving : RdmaState) (s : State) : (rdmaStart moving s).imr = s.imr := rfl
@[simp] theorem rdmaStart_dcr (moving : RdmaState) (s : State) : (rdmaStart moving s).dcr = s.dcr := rfl
@[simp] theorem rdmaStart_tcr (moving : RdmaState) (s : State) : (rdmaStart moving s).tcr = s.tcr := rfl
@[simp] theorem rdmaStart_tsr (moving : RdmaState) (s : State) : (rdmaStart moving s).tsr = s.tsr := rfl
@[simp] theorem rdmaStart_rcr (moving : RdmaState) (s : State) : (rdmaStart moving s).rcr = s.rcr := rfl
@[simp] theorem rdmaStart_rsr (moving : RdmaState) (s : State) : (rdmaStart moving s).rsr = s.rsr := rfl
@[simp] theorem rdmaStart_localDma (moving : RdmaState) (s : State) : (rdmaStart moving s).localDma = s.localDma := rfl
@[simp] theorem rdmaStart_remoteDma (moving : RdmaState) (s : State) : (rdmaStart moving s).remoteDma = s.remoteStart := rfl
@[simp] theorem rdmaStart_remoteStart (moving : RdmaState) (s : State) : (rdmaStart moving s).remoteStart = s.remoteStart := rfl
@[simp] theorem rdmaStart_remoteBytes (moving : RdmaState) (s : State) : (rdmaStart moving s).remoteBytes = s.remoteBytes := rfl
@[simp] theorem rdmaStart_pageStart (moving : RdmaState) (s : State) : (rdmaStart moving s).pageStart = s.pageStart := rfl
@[simp] theorem rdmaStart_pageStop (moving : RdmaState) (s : State) : (rdmaStart moving s).pageStop = s.pageStop := rfl
@[simp] theorem rdmaStart_boundPtr (moving : RdmaState) (s : State) : (rdmaStart moving s).boundPtr = s.boundPtr := rfl
@[simp] theorem rdmaStart_currPage (moving : RdmaState) (s : State) : (rdmaStart moving s).currPage = s.currPage := rfl
@[simp] theorem rdmaStart_txPageStart (moving : RdmaState) (s : State) : (rdmaStart moving s).txPageStart = s.txPageStart := rfl
@[simp] theorem rdmaStart_txBytes (moving : RdmaState) (s : State) : (rdmaStart moving s).txBytes = s.txBytes := rfl
@[simp] theorem rdmaStart_tallycnt0 (moving : RdmaState) (s : State) : (rdmaStart moving s).tallycnt0 = s.tallycnt0 := rfl
@[simp] theorem rdmaStart_tallycnt1 (moving : RdmaState) (s : State) : (rdmaStart moving s).tallycnt1 = s.tallycnt1 := rfl
@[simp] theorem rdmaStart_tallycnt2 (moving : RdmaState) (s : State) : (rdmaStart moving s).tallycnt2 = s.tallycnt2 := rfl
@[simp] theorem rdmaStart_rempktPtr (moving : RdmaState) (s : State) : (rdmaStart moving s).rempktPtr = s.rempktPtr := rfl
@[simp] theorem rdmaStart_localpktPtr (moving : RdmaState) (s : State) : (rdmaStart moving s).localpktPtr = s.localpktPtr := rfl
@[simp] theorem rdmaStart_addressCnt (moving : RdmaState) (s : State) : (rdmaStart moving s).addressCnt = s.addressCnt := rfl
@[simp] theorem rdmaStart_physaddr (moving : RdmaState) (s : State) : (rdmaStart moving s).physaddr = s.physaddr := rfl
@[simp] theorem rdmaStart_mchash (moving : RdmaState) (s : State) : (rdmaStart moving s).mchash = s.mchash := rfl
@[simp] theorem rdmaStart_macrom (moving : RdmaState) (s : State) : (rdmaStart moving s).macrom = s.macrom := rfl
@[simp] theorem rdmaStart_rdmaState (moving : RdmaState) (s : State) : (rdmaStart moving s).rdmaState = if s.remoteBytes = 0#16 then .idle else moving := rfl
@[simp] theorem rdmaStart_rdmaRemaining (moving : RdmaState) (s : State) : (rdmaStart moving s).rdmaRemaining = s.remoteBytes := rfl
@[simp] theorem rdmaStart_irqLine (moving : RdmaState) (s : State) : (rdmaStart moving s).irqLine = s.irqLine := rfl
@[simp] theorem rdmaStart_mem (moving : RdmaState) (s : State) : (rdmaStart moving s).mem = s.mem := rfl
@[simp] theorem rdmaStart_pending (moving : RdmaState) (s : State) : (rdmaStart moving s).pending = s.pending := rfl
@[simp] theorem rdmaStart_out (moving : RdmaState) (s : State) : (rdmaStart moving s).out = s.out := rfl
@[simp] theorem rdmaStart_draws (moving : RdmaState) (s : State) : (rdmaStart moving s).draws = s.draws := rfl

/-! The abort of a transfer (R304). -/

@[simp] theorem rdmaAbort_cfg (s : State) : (rdmaAbort s).cfg = s.cfg := rfl
@[simp] theorem rdmaAbort_cr (s : State) : (rdmaAbort s).cr = s.cr := rfl
@[simp] theorem rdmaAbort_isr (s : State) : (rdmaAbort s).isr = s.isr := rfl
@[simp] theorem rdmaAbort_imr (s : State) : (rdmaAbort s).imr = s.imr := rfl
@[simp] theorem rdmaAbort_dcr (s : State) : (rdmaAbort s).dcr = s.dcr := rfl
@[simp] theorem rdmaAbort_tcr (s : State) : (rdmaAbort s).tcr = s.tcr := rfl
@[simp] theorem rdmaAbort_tsr (s : State) : (rdmaAbort s).tsr = s.tsr := rfl
@[simp] theorem rdmaAbort_rcr (s : State) : (rdmaAbort s).rcr = s.rcr := rfl
@[simp] theorem rdmaAbort_rsr (s : State) : (rdmaAbort s).rsr = s.rsr := rfl
@[simp] theorem rdmaAbort_localDma (s : State) : (rdmaAbort s).localDma = s.localDma := rfl
@[simp] theorem rdmaAbort_remoteDma (s : State) : (rdmaAbort s).remoteDma = s.remoteStart := rfl
@[simp] theorem rdmaAbort_remoteStart (s : State) : (rdmaAbort s).remoteStart = s.remoteStart := rfl
@[simp] theorem rdmaAbort_remoteBytes (s : State) : (rdmaAbort s).remoteBytes = s.remoteBytes := rfl
@[simp] theorem rdmaAbort_pageStart (s : State) : (rdmaAbort s).pageStart = s.pageStart := rfl
@[simp] theorem rdmaAbort_pageStop (s : State) : (rdmaAbort s).pageStop = s.pageStop := rfl
@[simp] theorem rdmaAbort_boundPtr (s : State) : (rdmaAbort s).boundPtr = s.boundPtr := rfl
@[simp] theorem rdmaAbort_currPage (s : State) : (rdmaAbort s).currPage = s.currPage := rfl
@[simp] theorem rdmaAbort_txPageStart (s : State) : (rdmaAbort s).txPageStart = s.txPageStart := rfl
@[simp] theorem rdmaAbort_txBytes (s : State) : (rdmaAbort s).txBytes = s.txBytes := rfl
@[simp] theorem rdmaAbort_tallycnt0 (s : State) : (rdmaAbort s).tallycnt0 = s.tallycnt0 := rfl
@[simp] theorem rdmaAbort_tallycnt1 (s : State) : (rdmaAbort s).tallycnt1 = s.tallycnt1 := rfl
@[simp] theorem rdmaAbort_tallycnt2 (s : State) : (rdmaAbort s).tallycnt2 = s.tallycnt2 := rfl
@[simp] theorem rdmaAbort_rempktPtr (s : State) : (rdmaAbort s).rempktPtr = s.rempktPtr := rfl
@[simp] theorem rdmaAbort_localpktPtr (s : State) : (rdmaAbort s).localpktPtr = s.localpktPtr := rfl
@[simp] theorem rdmaAbort_addressCnt (s : State) : (rdmaAbort s).addressCnt = s.addressCnt := rfl
@[simp] theorem rdmaAbort_physaddr (s : State) : (rdmaAbort s).physaddr = s.physaddr := rfl
@[simp] theorem rdmaAbort_mchash (s : State) : (rdmaAbort s).mchash = s.mchash := rfl
@[simp] theorem rdmaAbort_macrom (s : State) : (rdmaAbort s).macrom = s.macrom := rfl
@[simp] theorem rdmaAbort_rdmaState (s : State) : (rdmaAbort s).rdmaState = .aborted := rfl
@[simp] theorem rdmaAbort_rdmaRemaining (s : State) : (rdmaAbort s).rdmaRemaining = 0#16 := rfl
@[simp] theorem rdmaAbort_irqLine (s : State) : (rdmaAbort s).irqLine = s.irqLine := rfl
@[simp] theorem rdmaAbort_mem (s : State) : (rdmaAbort s).mem = s.mem := rfl
@[simp] theorem rdmaAbort_pending (s : State) : (rdmaAbort s).pending = s.pending := rfl
@[simp] theorem rdmaAbort_out (s : State) : (rdmaAbort s).out = s.out := rfl
@[simp] theorem rdmaAbort_draws (s : State) : (rdmaAbort s).draws = s.draws := rfl

/-! The advance of a transfer (R307, R308, R310). -/

@[simp] theorem portAdvance_cfg (n : Nat) (s : State) : (portAdvance n s).cfg = s.cfg := rfl
@[simp] theorem portAdvance_cr (n : Nat) (s : State) : (portAdvance n s).cr = s.cr := rfl
@[simp] theorem portAdvance_isr (n : Nat) (s : State) : (portAdvance n s).isr = if s.rdmaRemaining - BitVec.ofNat 16 n = 0#16 then s.isr ||| isrRdmaDone else s.isr := rfl
@[simp] theorem portAdvance_imr (n : Nat) (s : State) : (portAdvance n s).imr = s.imr := rfl
@[simp] theorem portAdvance_dcr (n : Nat) (s : State) : (portAdvance n s).dcr = s.dcr := rfl
@[simp] theorem portAdvance_tcr (n : Nat) (s : State) : (portAdvance n s).tcr = s.tcr := rfl
@[simp] theorem portAdvance_tsr (n : Nat) (s : State) : (portAdvance n s).tsr = s.tsr := rfl
@[simp] theorem portAdvance_rcr (n : Nat) (s : State) : (portAdvance n s).rcr = s.rcr := rfl
@[simp] theorem portAdvance_rsr (n : Nat) (s : State) : (portAdvance n s).rsr = s.rsr := rfl
@[simp] theorem portAdvance_localDma (n : Nat) (s : State) : (portAdvance n s).localDma = s.localDma := rfl
@[simp] theorem portAdvance_remoteDma (n : Nat) (s : State) : (portAdvance n s).remoteDma = s.remoteDma + BitVec.ofNat 16 n := rfl
@[simp] theorem portAdvance_remoteStart (n : Nat) (s : State) : (portAdvance n s).remoteStart = s.remoteStart := rfl
@[simp] theorem portAdvance_remoteBytes (n : Nat) (s : State) : (portAdvance n s).remoteBytes = s.remoteBytes := rfl
@[simp] theorem portAdvance_pageStart (n : Nat) (s : State) : (portAdvance n s).pageStart = s.pageStart := rfl
@[simp] theorem portAdvance_pageStop (n : Nat) (s : State) : (portAdvance n s).pageStop = s.pageStop := rfl
@[simp] theorem portAdvance_boundPtr (n : Nat) (s : State) : (portAdvance n s).boundPtr = s.boundPtr := rfl
@[simp] theorem portAdvance_currPage (n : Nat) (s : State) : (portAdvance n s).currPage = s.currPage := rfl
@[simp] theorem portAdvance_txPageStart (n : Nat) (s : State) : (portAdvance n s).txPageStart = s.txPageStart := rfl
@[simp] theorem portAdvance_txBytes (n : Nat) (s : State) : (portAdvance n s).txBytes = s.txBytes := rfl
@[simp] theorem portAdvance_tallycnt0 (n : Nat) (s : State) : (portAdvance n s).tallycnt0 = s.tallycnt0 := rfl
@[simp] theorem portAdvance_tallycnt1 (n : Nat) (s : State) : (portAdvance n s).tallycnt1 = s.tallycnt1 := rfl
@[simp] theorem portAdvance_tallycnt2 (n : Nat) (s : State) : (portAdvance n s).tallycnt2 = s.tallycnt2 := rfl
@[simp] theorem portAdvance_rempktPtr (n : Nat) (s : State) : (portAdvance n s).rempktPtr = s.rempktPtr := rfl
@[simp] theorem portAdvance_localpktPtr (n : Nat) (s : State) : (portAdvance n s).localpktPtr = s.localpktPtr := rfl
@[simp] theorem portAdvance_addressCnt (n : Nat) (s : State) : (portAdvance n s).addressCnt = s.addressCnt := rfl
@[simp] theorem portAdvance_physaddr (n : Nat) (s : State) : (portAdvance n s).physaddr = s.physaddr := rfl
@[simp] theorem portAdvance_mchash (n : Nat) (s : State) : (portAdvance n s).mchash = s.mchash := rfl
@[simp] theorem portAdvance_macrom (n : Nat) (s : State) : (portAdvance n s).macrom = s.macrom := rfl
@[simp] theorem portAdvance_rdmaState (n : Nat) (s : State) : (portAdvance n s).rdmaState = if s.rdmaRemaining - BitVec.ofNat 16 n = 0#16 then .idle else s.rdmaState := rfl
@[simp] theorem portAdvance_rdmaRemaining (n : Nat) (s : State) : (portAdvance n s).rdmaRemaining = s.rdmaRemaining - BitVec.ofNat 16 n := rfl
@[simp] theorem portAdvance_irqLine (n : Nat) (s : State) : (portAdvance n s).irqLine = s.irqLine := rfl
@[simp] theorem portAdvance_mem (n : Nat) (s : State) : (portAdvance n s).mem = s.mem := rfl
@[simp] theorem portAdvance_pending (n : Nat) (s : State) : (portAdvance n s).pending = s.pending := rfl
@[simp] theorem portAdvance_out (n : Nat) (s : State) : (portAdvance n s).out = s.out := rfl
@[simp] theorem portAdvance_draws (n : Nat) (s : State) : (portAdvance n s).draws = s.draws := rfl

/-! The transmit trigger (R270). -/

@[simp] theorem txTrigger_cfg (s : State) : (txTrigger s).cfg = s.cfg := rfl
@[simp] theorem txTrigger_cr (s : State) : (txTrigger s).cr = { s.cr with txPacket := true } := rfl
@[simp] theorem txTrigger_isr (s : State) : (txTrigger s).isr = s.isr := rfl
@[simp] theorem txTrigger_imr (s : State) : (txTrigger s).imr = s.imr := rfl
@[simp] theorem txTrigger_dcr (s : State) : (txTrigger s).dcr = s.dcr := rfl
@[simp] theorem txTrigger_tcr (s : State) : (txTrigger s).tcr = s.tcr := rfl
@[simp] theorem txTrigger_tsr (s : State) : (txTrigger s).tsr = 0x00#8 := rfl
@[simp] theorem txTrigger_rcr (s : State) : (txTrigger s).rcr = s.rcr := rfl
@[simp] theorem txTrigger_rsr (s : State) : (txTrigger s).rsr = s.rsr := rfl
@[simp] theorem txTrigger_localDma (s : State) : (txTrigger s).localDma = s.localDma := rfl
@[simp] theorem txTrigger_remoteDma (s : State) : (txTrigger s).remoteDma = s.remoteDma := rfl
@[simp] theorem txTrigger_remoteStart (s : State) : (txTrigger s).remoteStart = s.remoteStart := rfl
@[simp] theorem txTrigger_remoteBytes (s : State) : (txTrigger s).remoteBytes = s.remoteBytes := rfl
@[simp] theorem txTrigger_pageStart (s : State) : (txTrigger s).pageStart = s.pageStart := rfl
@[simp] theorem txTrigger_pageStop (s : State) : (txTrigger s).pageStop = s.pageStop := rfl
@[simp] theorem txTrigger_boundPtr (s : State) : (txTrigger s).boundPtr = s.boundPtr := rfl
@[simp] theorem txTrigger_currPage (s : State) : (txTrigger s).currPage = s.currPage := rfl
@[simp] theorem txTrigger_txPageStart (s : State) : (txTrigger s).txPageStart = s.txPageStart := rfl
@[simp] theorem txTrigger_txBytes (s : State) : (txTrigger s).txBytes = s.txBytes := rfl
@[simp] theorem txTrigger_tallycnt0 (s : State) : (txTrigger s).tallycnt0 = s.tallycnt0 := rfl
@[simp] theorem txTrigger_tallycnt1 (s : State) : (txTrigger s).tallycnt1 = s.tallycnt1 := rfl
@[simp] theorem txTrigger_tallycnt2 (s : State) : (txTrigger s).tallycnt2 = s.tallycnt2 := rfl
@[simp] theorem txTrigger_rempktPtr (s : State) : (txTrigger s).rempktPtr = s.rempktPtr := rfl
@[simp] theorem txTrigger_localpktPtr (s : State) : (txTrigger s).localpktPtr = s.localpktPtr := rfl
@[simp] theorem txTrigger_addressCnt (s : State) : (txTrigger s).addressCnt = s.addressCnt := rfl
@[simp] theorem txTrigger_physaddr (s : State) : (txTrigger s).physaddr = s.physaddr := rfl
@[simp] theorem txTrigger_mchash (s : State) : (txTrigger s).mchash = s.mchash := rfl
@[simp] theorem txTrigger_macrom (s : State) : (txTrigger s).macrom = s.macrom := rfl
@[simp] theorem txTrigger_rdmaState (s : State) : (txTrigger s).rdmaState = s.rdmaState := rfl
@[simp] theorem txTrigger_rdmaRemaining (s : State) : (txTrigger s).rdmaRemaining = s.rdmaRemaining := rfl
@[simp] theorem txTrigger_irqLine (s : State) : (txTrigger s).irqLine = s.irqLine := rfl
@[simp] theorem txTrigger_mem (s : State) : (txTrigger s).mem = s.mem := rfl
@[simp] theorem txTrigger_pending (s : State) : (txTrigger s).pending = s.pending := rfl
@[simp] theorem txTrigger_out (s : State) : (txTrigger s).out = { s.out with events := s.out.events ++ [.txFrame (txFetch s)] } := rfl
@[simp] theorem txTrigger_draws (s : State) : (txTrigger s).draws = s.draws := rfl

/-! The report of a completion (R275). -/

@[simp] theorem txReport_cfg (outcome : Byte) (s : State) : (txReport outcome s).cfg = s.cfg := rfl
@[simp] theorem txReport_cr (outcome : Byte) (s : State) : (txReport outcome s).cr = { s.cr with txPacket := false } := rfl
@[simp] theorem txReport_isr (outcome : Byte) (s : State) : (txReport outcome s).isr = s.isr ||| (if outcome = tsrTxOk then isrPktTx else isrTxErr) := rfl
@[simp] theorem txReport_imr (outcome : Byte) (s : State) : (txReport outcome s).imr = s.imr := rfl
@[simp] theorem txReport_dcr (outcome : Byte) (s : State) : (txReport outcome s).dcr = s.dcr := rfl
@[simp] theorem txReport_tcr (outcome : Byte) (s : State) : (txReport outcome s).tcr = s.tcr := rfl
@[simp] theorem txReport_tsr (outcome : Byte) (s : State) : (txReport outcome s).tsr = outcome := rfl
@[simp] theorem txReport_rcr (outcome : Byte) (s : State) : (txReport outcome s).rcr = s.rcr := rfl
@[simp] theorem txReport_rsr (outcome : Byte) (s : State) : (txReport outcome s).rsr = s.rsr := rfl
@[simp] theorem txReport_localDma (outcome : Byte) (s : State) : (txReport outcome s).localDma = s.localDma := rfl
@[simp] theorem txReport_remoteDma (outcome : Byte) (s : State) : (txReport outcome s).remoteDma = s.remoteDma := rfl
@[simp] theorem txReport_remoteStart (outcome : Byte) (s : State) : (txReport outcome s).remoteStart = s.remoteStart := rfl
@[simp] theorem txReport_remoteBytes (outcome : Byte) (s : State) : (txReport outcome s).remoteBytes = s.remoteBytes := rfl
@[simp] theorem txReport_pageStart (outcome : Byte) (s : State) : (txReport outcome s).pageStart = s.pageStart := rfl
@[simp] theorem txReport_pageStop (outcome : Byte) (s : State) : (txReport outcome s).pageStop = s.pageStop := rfl
@[simp] theorem txReport_boundPtr (outcome : Byte) (s : State) : (txReport outcome s).boundPtr = s.boundPtr := rfl
@[simp] theorem txReport_currPage (outcome : Byte) (s : State) : (txReport outcome s).currPage = s.currPage := rfl
@[simp] theorem txReport_txPageStart (outcome : Byte) (s : State) : (txReport outcome s).txPageStart = s.txPageStart := rfl
@[simp] theorem txReport_txBytes (outcome : Byte) (s : State) : (txReport outcome s).txBytes = s.txBytes := rfl
@[simp] theorem txReport_tallycnt0 (outcome : Byte) (s : State) : (txReport outcome s).tallycnt0 = s.tallycnt0 := rfl
@[simp] theorem txReport_tallycnt1 (outcome : Byte) (s : State) : (txReport outcome s).tallycnt1 = s.tallycnt1 := rfl
@[simp] theorem txReport_tallycnt2 (outcome : Byte) (s : State) : (txReport outcome s).tallycnt2 = s.tallycnt2 := rfl
@[simp] theorem txReport_rempktPtr (outcome : Byte) (s : State) : (txReport outcome s).rempktPtr = s.rempktPtr := rfl
@[simp] theorem txReport_localpktPtr (outcome : Byte) (s : State) : (txReport outcome s).localpktPtr = s.localpktPtr := rfl
@[simp] theorem txReport_addressCnt (outcome : Byte) (s : State) : (txReport outcome s).addressCnt = s.addressCnt := rfl
@[simp] theorem txReport_physaddr (outcome : Byte) (s : State) : (txReport outcome s).physaddr = s.physaddr := rfl
@[simp] theorem txReport_mchash (outcome : Byte) (s : State) : (txReport outcome s).mchash = s.mchash := rfl
@[simp] theorem txReport_macrom (outcome : Byte) (s : State) : (txReport outcome s).macrom = s.macrom := rfl
@[simp] theorem txReport_rdmaState (outcome : Byte) (s : State) : (txReport outcome s).rdmaState = s.rdmaState := rfl
@[simp] theorem txReport_rdmaRemaining (outcome : Byte) (s : State) : (txReport outcome s).rdmaRemaining = s.rdmaRemaining := rfl
@[simp] theorem txReport_irqLine (outcome : Byte) (s : State) : (txReport outcome s).irqLine = s.irqLine := rfl
@[simp] theorem txReport_mem (outcome : Byte) (s : State) : (txReport outcome s).mem = s.mem := rfl
@[simp] theorem txReport_pending (outcome : Byte) (s : State) : (txReport outcome s).pending = s.pending := rfl
@[simp] theorem txReport_out (outcome : Byte) (s : State) : (txReport outcome s).out = s.out := rfl
@[simp] theorem txReport_draws (outcome : Byte) (s : State) : (txReport outcome s).draws = s.draws := rfl

/-! A frame refused for errors (R237). -/

@[simp] theorem rxRefuse_cfg (errs : Byte) (s : State) : (rxRefuse errs s).cfg = s.cfg := rfl
@[simp] theorem rxRefuse_cr (errs : Byte) (s : State) : (rxRefuse errs s).cr = s.cr := rfl
@[simp] theorem rxRefuse_isr (errs : Byte) (s : State) : (rxRefuse errs s).isr = s.isr ||| isrRxErr := rfl
@[simp] theorem rxRefuse_imr (errs : Byte) (s : State) : (rxRefuse errs s).imr = s.imr := rfl
@[simp] theorem rxRefuse_dcr (errs : Byte) (s : State) : (rxRefuse errs s).dcr = s.dcr := rfl
@[simp] theorem rxRefuse_tcr (errs : Byte) (s : State) : (rxRefuse errs s).tcr = s.tcr := rfl
@[simp] theorem rxRefuse_tsr (errs : Byte) (s : State) : (rxRefuse errs s).tsr = s.tsr := rfl
@[simp] theorem rxRefuse_rcr (errs : Byte) (s : State) : (rxRefuse errs s).rcr = s.rcr := rfl
@[simp] theorem rxRefuse_rsr (errs : Byte) (s : State) : (rxRefuse errs s).rsr = errs := rfl
@[simp] theorem rxRefuse_localDma (errs : Byte) (s : State) : (rxRefuse errs s).localDma = s.localDma := rfl
@[simp] theorem rxRefuse_remoteDma (errs : Byte) (s : State) : (rxRefuse errs s).remoteDma = s.remoteDma := rfl
@[simp] theorem rxRefuse_remoteStart (errs : Byte) (s : State) : (rxRefuse errs s).remoteStart = s.remoteStart := rfl
@[simp] theorem rxRefuse_remoteBytes (errs : Byte) (s : State) : (rxRefuse errs s).remoteBytes = s.remoteBytes := rfl
@[simp] theorem rxRefuse_pageStart (errs : Byte) (s : State) : (rxRefuse errs s).pageStart = s.pageStart := rfl
@[simp] theorem rxRefuse_pageStop (errs : Byte) (s : State) : (rxRefuse errs s).pageStop = s.pageStop := rfl
@[simp] theorem rxRefuse_boundPtr (errs : Byte) (s : State) : (rxRefuse errs s).boundPtr = s.boundPtr := rfl
@[simp] theorem rxRefuse_currPage (errs : Byte) (s : State) : (rxRefuse errs s).currPage = s.currPage := rfl
@[simp] theorem rxRefuse_txPageStart (errs : Byte) (s : State) : (rxRefuse errs s).txPageStart = s.txPageStart := rfl
@[simp] theorem rxRefuse_txBytes (errs : Byte) (s : State) : (rxRefuse errs s).txBytes = s.txBytes := rfl
@[simp] theorem rxRefuse_tallycnt0 (errs : Byte) (s : State) : (rxRefuse errs s).tallycnt0 = s.tallycnt0 := rfl
@[simp] theorem rxRefuse_tallycnt1 (errs : Byte) (s : State) : (rxRefuse errs s).tallycnt1 = s.tallycnt1 := rfl
@[simp] theorem rxRefuse_tallycnt2 (errs : Byte) (s : State) : (rxRefuse errs s).tallycnt2 = s.tallycnt2 := rfl
@[simp] theorem rxRefuse_rempktPtr (errs : Byte) (s : State) : (rxRefuse errs s).rempktPtr = s.rempktPtr := rfl
@[simp] theorem rxRefuse_localpktPtr (errs : Byte) (s : State) : (rxRefuse errs s).localpktPtr = s.localpktPtr := rfl
@[simp] theorem rxRefuse_addressCnt (errs : Byte) (s : State) : (rxRefuse errs s).addressCnt = s.addressCnt := rfl
@[simp] theorem rxRefuse_physaddr (errs : Byte) (s : State) : (rxRefuse errs s).physaddr = s.physaddr := rfl
@[simp] theorem rxRefuse_mchash (errs : Byte) (s : State) : (rxRefuse errs s).mchash = s.mchash := rfl
@[simp] theorem rxRefuse_macrom (errs : Byte) (s : State) : (rxRefuse errs s).macrom = s.macrom := rfl
@[simp] theorem rxRefuse_rdmaState (errs : Byte) (s : State) : (rxRefuse errs s).rdmaState = s.rdmaState := rfl
@[simp] theorem rxRefuse_rdmaRemaining (errs : Byte) (s : State) : (rxRefuse errs s).rdmaRemaining = s.rdmaRemaining := rfl
@[simp] theorem rxRefuse_irqLine (errs : Byte) (s : State) : (rxRefuse errs s).irqLine = s.irqLine := rfl
@[simp] theorem rxRefuse_mem (errs : Byte) (s : State) : (rxRefuse errs s).mem = s.mem := rfl
@[simp] theorem rxRefuse_pending (errs : Byte) (s : State) : (rxRefuse errs s).pending = s.pending := rfl
@[simp] theorem rxRefuse_out (errs : Byte) (s : State) : (rxRefuse errs s).out = s.out := rfl
@[simp] theorem rxRefuse_draws (errs : Byte) (s : State) : (rxRefuse errs s).draws = s.draws := rfl

/-! A frame dropped for space (R239). -/

@[simp] theorem rxOverflow_cfg (s : State) : (rxOverflow s).cfg = s.cfg := rfl
@[simp] theorem rxOverflow_cr (s : State) : (rxOverflow s).cr = s.cr := rfl
@[simp] theorem rxOverflow_isr (s : State) : (rxOverflow s).isr = s.isr ||| isrOverwrite := rfl
@[simp] theorem rxOverflow_imr (s : State) : (rxOverflow s).imr = s.imr := rfl
@[simp] theorem rxOverflow_dcr (s : State) : (rxOverflow s).dcr = s.dcr := rfl
@[simp] theorem rxOverflow_tcr (s : State) : (rxOverflow s).tcr = s.tcr := rfl
@[simp] theorem rxOverflow_tsr (s : State) : (rxOverflow s).tsr = s.tsr := rfl
@[simp] theorem rxOverflow_rcr (s : State) : (rxOverflow s).rcr = s.rcr := rfl
@[simp] theorem rxOverflow_rsr (s : State) : (rxOverflow s).rsr = s.rsr := rfl
@[simp] theorem rxOverflow_localDma (s : State) : (rxOverflow s).localDma = s.localDma := rfl
@[simp] theorem rxOverflow_remoteDma (s : State) : (rxOverflow s).remoteDma = s.remoteDma := rfl
@[simp] theorem rxOverflow_remoteStart (s : State) : (rxOverflow s).remoteStart = s.remoteStart := rfl
@[simp] theorem rxOverflow_remoteBytes (s : State) : (rxOverflow s).remoteBytes = s.remoteBytes := rfl
@[simp] theorem rxOverflow_pageStart (s : State) : (rxOverflow s).pageStart = s.pageStart := rfl
@[simp] theorem rxOverflow_pageStop (s : State) : (rxOverflow s).pageStop = s.pageStop := rfl
@[simp] theorem rxOverflow_boundPtr (s : State) : (rxOverflow s).boundPtr = s.boundPtr := rfl
@[simp] theorem rxOverflow_currPage (s : State) : (rxOverflow s).currPage = s.currPage := rfl
@[simp] theorem rxOverflow_txPageStart (s : State) : (rxOverflow s).txPageStart = s.txPageStart := rfl
@[simp] theorem rxOverflow_txBytes (s : State) : (rxOverflow s).txBytes = s.txBytes := rfl
@[simp] theorem rxOverflow_tallycnt0 (s : State) : (rxOverflow s).tallycnt0 = s.tallycnt0 := rfl
@[simp] theorem rxOverflow_tallycnt1 (s : State) : (rxOverflow s).tallycnt1 = s.tallycnt1 := rfl
@[simp] theorem rxOverflow_tallycnt2 (s : State) : (rxOverflow s).tallycnt2 = s.tallycnt2 + 1#8 := rfl
@[simp] theorem rxOverflow_rempktPtr (s : State) : (rxOverflow s).rempktPtr = s.rempktPtr := rfl
@[simp] theorem rxOverflow_localpktPtr (s : State) : (rxOverflow s).localpktPtr = s.localpktPtr := rfl
@[simp] theorem rxOverflow_addressCnt (s : State) : (rxOverflow s).addressCnt = s.addressCnt := rfl
@[simp] theorem rxOverflow_physaddr (s : State) : (rxOverflow s).physaddr = s.physaddr := rfl
@[simp] theorem rxOverflow_mchash (s : State) : (rxOverflow s).mchash = s.mchash := rfl
@[simp] theorem rxOverflow_macrom (s : State) : (rxOverflow s).macrom = s.macrom := rfl
@[simp] theorem rxOverflow_rdmaState (s : State) : (rxOverflow s).rdmaState = s.rdmaState := rfl
@[simp] theorem rxOverflow_rdmaRemaining (s : State) : (rxOverflow s).rdmaRemaining = s.rdmaRemaining := rfl
@[simp] theorem rxOverflow_irqLine (s : State) : (rxOverflow s).irqLine = s.irqLine := rfl
@[simp] theorem rxOverflow_mem (s : State) : (rxOverflow s).mem = s.mem := rfl
@[simp] theorem rxOverflow_pending (s : State) : (rxOverflow s).pending = s.pending := rfl
@[simp] theorem rxOverflow_out (s : State) : (rxOverflow s).out = s.out := rfl
@[simp] theorem rxOverflow_draws (s : State) : (rxOverflow s).draws = s.draws := rfl

/-! A frame stored (R241 to R244). -/

@[simp] theorem rxStore_cfg (frame : List Byte) (errs : Byte) (s : State) : (rxStore frame errs s).cfg = s.cfg := rfl
@[simp] theorem rxStore_cr (frame : List Byte) (errs : Byte) (s : State) : (rxStore frame errs s).cr = s.cr := rfl
@[simp] theorem rxStore_isr (frame : List Byte) (errs : Byte) (s : State) : (rxStore frame errs s).isr = s.isr ||| (if errs = 0x00#8 then isrPktRx else isrRxErr) := rfl
@[simp] theorem rxStore_imr (frame : List Byte) (errs : Byte) (s : State) : (rxStore frame errs s).imr = s.imr := rfl
@[simp] theorem rxStore_dcr (frame : List Byte) (errs : Byte) (s : State) : (rxStore frame errs s).dcr = s.dcr := rfl
@[simp] theorem rxStore_tcr (frame : List Byte) (errs : Byte) (s : State) : (rxStore frame errs s).tcr = s.tcr := rfl
@[simp] theorem rxStore_tsr (frame : List Byte) (errs : Byte) (s : State) : (rxStore frame errs s).tsr = s.tsr := rfl
@[simp] theorem rxStore_rcr (frame : List Byte) (errs : Byte) (s : State) : (rxStore frame errs s).rcr = s.rcr := rfl
@[simp] theorem rxStore_rsr (frame : List Byte) (errs : Byte) (s : State) : (rxStore frame errs s).rsr = rxStatus errs := rfl
@[simp] theorem rxStore_localDma (frame : List Byte) (errs : Byte) (s : State) : (rxStore frame errs s).localDma = s.localDma := rfl
@[simp] theorem rxStore_remoteDma (frame : List Byte) (errs : Byte) (s : State) : (rxStore frame errs s).remoteDma = s.remoteDma := rfl
@[simp] theorem rxStore_remoteStart (frame : List Byte) (errs : Byte) (s : State) : (rxStore frame errs s).remoteStart = s.remoteStart := rfl
@[simp] theorem rxStore_remoteBytes (frame : List Byte) (errs : Byte) (s : State) : (rxStore frame errs s).remoteBytes = s.remoteBytes := rfl
@[simp] theorem rxStore_pageStart (frame : List Byte) (errs : Byte) (s : State) : (rxStore frame errs s).pageStart = s.pageStart := rfl
@[simp] theorem rxStore_pageStop (frame : List Byte) (errs : Byte) (s : State) : (rxStore frame errs s).pageStop = s.pageStop := rfl
@[simp] theorem rxStore_boundPtr (frame : List Byte) (errs : Byte) (s : State) : (rxStore frame errs s).boundPtr = s.boundPtr := rfl
@[simp] theorem rxStore_currPage (frame : List Byte) (errs : Byte) (s : State) : (rxStore frame errs s).currPage = nextPage s (pagesFor frame.length) := rfl
@[simp] theorem rxStore_txPageStart (frame : List Byte) (errs : Byte) (s : State) : (rxStore frame errs s).txPageStart = s.txPageStart := rfl
@[simp] theorem rxStore_txBytes (frame : List Byte) (errs : Byte) (s : State) : (rxStore frame errs s).txBytes = s.txBytes := rfl
@[simp] theorem rxStore_tallycnt0 (frame : List Byte) (errs : Byte) (s : State) : (rxStore frame errs s).tallycnt0 = s.tallycnt0 := rfl
@[simp] theorem rxStore_tallycnt1 (frame : List Byte) (errs : Byte) (s : State) : (rxStore frame errs s).tallycnt1 = s.tallycnt1 := rfl
@[simp] theorem rxStore_tallycnt2 (frame : List Byte) (errs : Byte) (s : State) : (rxStore frame errs s).tallycnt2 = s.tallycnt2 := rfl
@[simp] theorem rxStore_rempktPtr (frame : List Byte) (errs : Byte) (s : State) : (rxStore frame errs s).rempktPtr = s.rempktPtr := rfl
@[simp] theorem rxStore_localpktPtr (frame : List Byte) (errs : Byte) (s : State) : (rxStore frame errs s).localpktPtr = s.localpktPtr := rfl
@[simp] theorem rxStore_addressCnt (frame : List Byte) (errs : Byte) (s : State) : (rxStore frame errs s).addressCnt = s.addressCnt := rfl
@[simp] theorem rxStore_physaddr (frame : List Byte) (errs : Byte) (s : State) : (rxStore frame errs s).physaddr = s.physaddr := rfl
@[simp] theorem rxStore_mchash (frame : List Byte) (errs : Byte) (s : State) : (rxStore frame errs s).mchash = s.mchash := rfl
@[simp] theorem rxStore_macrom (frame : List Byte) (errs : Byte) (s : State) : (rxStore frame errs s).macrom = s.macrom := rfl
@[simp] theorem rxStore_rdmaState (frame : List Byte) (errs : Byte) (s : State) : (rxStore frame errs s).rdmaState = s.rdmaState := rfl
@[simp] theorem rxStore_rdmaRemaining (frame : List Byte) (errs : Byte) (s : State) : (rxStore frame errs s).rdmaRemaining = s.rdmaRemaining := rfl
@[simp] theorem rxStore_irqLine (frame : List Byte) (errs : Byte) (s : State) : (rxStore frame errs s).irqLine = s.irqLine := rfl
@[simp] theorem rxStore_mem (frame : List Byte) (errs : Byte) (s : State) : (rxStore frame errs s).mem = writeBytes s.cfg (ringAddr s) 0 s.mem (rxBytes s frame errs) := rfl
@[simp] theorem rxStore_pending (frame : List Byte) (errs : Byte) (s : State) : (rxStore frame errs s).pending = s.pending := rfl
@[simp] theorem rxStore_out (frame : List Byte) (errs : Byte) (s : State) : (rxStore frame errs s).out = s.out := rfl
@[simp] theorem rxStore_draws (frame : List Byte) (errs : Byte) (s : State) : (rxStore frame errs s).draws = s.draws := rfl

/-! The hard reset (R381). -/

@[simp] theorem hardReset_cfg (content : List Byte) (s : State) : (hardReset content s).cfg = s.cfg := rfl
@[simp] theorem hardReset_cr (content : List Byte) (s : State) : (hardReset content s).cr = { stop := s.cfg.powerupStop, start := false, txPacket := false, rdmaCmd := 0#3, pgsel := 0#2 } := rfl
@[simp] theorem hardReset_isr (content : List Byte) (s : State) : (hardReset content s).isr = if s.cfg.powerupStop then isrReset else 0x00#8 := rfl
@[simp] theorem hardReset_imr (content : List Byte) (s : State) : (hardReset content s).imr = 0x00#8 := rfl
@[simp] theorem hardReset_dcr (content : List Byte) (s : State) : (hardReset content s).dcr = 0x00#8 := rfl
@[simp] theorem hardReset_tcr (content : List Byte) (s : State) : (hardReset content s).tcr = 0x00#8 := rfl
@[simp] theorem hardReset_tsr (content : List Byte) (s : State) : (hardReset content s).tsr = 0x00#8 := rfl
@[simp] theorem hardReset_rcr (content : List Byte) (s : State) : (hardReset content s).rcr = 0x00#8 := rfl
@[simp] theorem hardReset_rsr (content : List Byte) (s : State) : (hardReset content s).rsr = 0x00#8 := rfl
@[simp] theorem hardReset_localDma (content : List Byte) (s : State) : (hardReset content s).localDma = 0x0000#16 := rfl
@[simp] theorem hardReset_remoteDma (content : List Byte) (s : State) : (hardReset content s).remoteDma = 0x0000#16 := rfl
@[simp] theorem hardReset_remoteStart (content : List Byte) (s : State) : (hardReset content s).remoteStart = 0x0000#16 := rfl
@[simp] theorem hardReset_remoteBytes (content : List Byte) (s : State) : (hardReset content s).remoteBytes = 0x0000#16 := rfl
@[simp] theorem hardReset_pageStart (content : List Byte) (s : State) : (hardReset content s).pageStart = 0x00#8 := rfl
@[simp] theorem hardReset_pageStop (content : List Byte) (s : State) : (hardReset content s).pageStop = 0x00#8 := rfl
@[simp] theorem hardReset_boundPtr (content : List Byte) (s : State) : (hardReset content s).boundPtr = 0x00#8 := rfl
@[simp] theorem hardReset_currPage (content : List Byte) (s : State) : (hardReset content s).currPage = 0x00#8 := rfl
@[simp] theorem hardReset_txPageStart (content : List Byte) (s : State) : (hardReset content s).txPageStart = 0x00#8 := rfl
@[simp] theorem hardReset_txBytes (content : List Byte) (s : State) : (hardReset content s).txBytes = 0x0000#16 := rfl
@[simp] theorem hardReset_tallycnt0 (content : List Byte) (s : State) : (hardReset content s).tallycnt0 = 0x00#8 := rfl
@[simp] theorem hardReset_tallycnt1 (content : List Byte) (s : State) : (hardReset content s).tallycnt1 = 0x00#8 := rfl
@[simp] theorem hardReset_tallycnt2 (content : List Byte) (s : State) : (hardReset content s).tallycnt2 = 0x00#8 := rfl
@[simp] theorem hardReset_rempktPtr (content : List Byte) (s : State) : (hardReset content s).rempktPtr = 0x00#8 := rfl
@[simp] theorem hardReset_localpktPtr (content : List Byte) (s : State) : (hardReset content s).localpktPtr = 0x00#8 := rfl
@[simp] theorem hardReset_addressCnt (content : List Byte) (s : State) : (hardReset content s).addressCnt = 0x0000#16 := rfl
@[simp] theorem hardReset_physaddr (content : List Byte) (s : State) : (hardReset content s).physaddr = s.cfg.macCfg := rfl
@[simp] theorem hardReset_mchash (content : List Byte) (s : State) : (hardReset content s).mchash = Vector.replicate 8 0x00#8 := rfl
@[simp] theorem hardReset_macrom (content : List Byte) (s : State) : (hardReset content s).macrom = s.macrom := rfl
@[simp] theorem hardReset_rdmaState (content : List Byte) (s : State) : (hardReset content s).rdmaState = .idle := rfl
@[simp] theorem hardReset_rdmaRemaining (content : List Byte) (s : State) : (hardReset content s).rdmaRemaining = 0x0000#16 := rfl
@[simp] theorem hardReset_irqLine (content : List Byte) (s : State) : (hardReset content s).irqLine = s.irqLine := rfl
@[simp] theorem hardReset_mem (content : List Byte) (s : State) : (hardReset content s).mem = Memory.ofBytes 0 (content.take s.cfg.memSize) := rfl
@[simp] theorem hardReset_pending (content : List Byte) (s : State) : (hardReset content s).pending = s.pending := rfl
@[simp] theorem hardReset_out (content : List Byte) (s : State) : (hardReset content s).out = s.out := rfl
@[simp] theorem hardReset_draws (content : List Byte) (s : State) : (hardReset content s).draws = s.draws := rfl

end Sys2Proof.Machine
end

