-- ==== Sys2Proof/Laws/Exec.lean ====
section
/-!
SUPPORT. What an operation can do, said once: `exec` answers a next state in one of four ways (`exec_next`). An invariant
of the core is proved over these cases, not over the operations.
-/

namespace Sys2Proof.Machine

/-- What a register write puts in the state, `v` being the value truncated to 8 bits: one constructor per store. -/
inductive Stored (v : Byte) (s : State) : State → Prop where
  | nothing : Stored v s s
  | wrP0Pstart : Stored v s { s with pageStart := v }
  | wrP0Pstop : Stored v s { s with pageStop := v }
  | wrP0Bnry : Stored v s { s with boundPtr := v }
  | wrP0Tpsr : Stored v s { s with txPageStart := v }
  | wrP0Tbcr0 : Stored v s { s with txBytes := withLow s.txBytes v }
  | wrP0Tbcr1 : Stored v s { s with txBytes := withHigh s.txBytes v }
  | wrP0Isr : Stored v s { s with isr := w1c s.isr v }
  | wrP0Rsar0 : Stored v s { s with remoteStart := withLow s.remoteStart v }
  | wrP0Rsar1 : Stored v s { s with remoteStart := withHigh s.remoteStart v }
  | wrP0Rbcr0 : Stored v s { s with remoteBytes := withLow s.remoteBytes v }
  | wrP0Rbcr1 : Stored v s { s with remoteBytes := withHigh s.remoteBytes v }
  | wrP0Rcr : Stored v s { s with rcr := v &&& rcrMask }
  | wrP0Tcr : Stored v s { s with tcr := v &&& tcrMask }
  | wrP0Dcr : Stored v s { s with dcr := v &&& dcrMask }
  | wrP0Imr : Stored v s { s with imr := v &&& imrMask }
  | wrP1Curr : Stored v s { s with currPage := v }
  | wrP2Rnpp : Stored v s { s with rempktPtr := v }
  | wrP2Lnpp : Stored v s { s with localpktPtr := v }
  | wrP2Acu : Stored v s { s with addressCnt := withHigh s.addressCnt v }
  | wrP2Acl : Stored v s { s with addressCnt := withLow s.addressCnt v }
  | wrP1Par0 : Stored v s { s with physaddr := s.physaddr.set 0 v }
  | wrP1Par1 : Stored v s { s with physaddr := s.physaddr.set 1 v }
  | wrP1Par2 : Stored v s { s with physaddr := s.physaddr.set 2 v }
  | wrP1Par3 : Stored v s { s with physaddr := s.physaddr.set 3 v }
  | wrP1Par4 : Stored v s { s with physaddr := s.physaddr.set 4 v }
  | wrP1Par5 : Stored v s { s with physaddr := s.physaddr.set 5 v }
  | wrP1Mar0 : Stored v s { s with mchash := s.mchash.set 0 v }
  | wrP1Mar1 : Stored v s { s with mchash := s.mchash.set 1 v }
  | wrP1Mar2 : Stored v s { s with mchash := s.mchash.set 2 v }
  | wrP1Mar3 : Stored v s { s with mchash := s.mchash.set 3 v }
  | wrP1Mar4 : Stored v s { s with mchash := s.mchash.set 4 v }
  | wrP1Mar5 : Stored v s { s with mchash := s.mchash.set 5 v }
  | wrP1Mar6 : Stored v s { s with mchash := s.mchash.set 6 v }
  | wrP1Mar7 : Stored v s { s with mchash := s.mchash.set 7 v }
  | commandRegister (h : sendRefused v s = false) : Stored v s (crStore v s)

/-- What the engines and the reset put in the state. -/
inductive Acted (s : State) : State → Prop where
  | reset (content : List Byte) : Acted s (hardReset content s)
  | complete (outcome : Byte) (pending : s.cr.txPacket = true) (allowed : outcomeAllowed s.tcr outcome = true) :
      Acted s (txReport outcome s)
  | refuse (errs : Byte) (domain : verdictOk errs = true) : Acted s (rxRefuse errs s)
  | overflow : Acted s (rxOverflow s)
  | store (frame : List Byte) (errs : Byte) (domain : verdictOk errs = true) (fits : storesFrame frame errs s) :
      Acted s (rxStore frame errs s)
  | portRead (v : Option HostVal) (h : s.rdmaState = .reading) :
      Acted s { portAdvance (portCount s) s with out := ⟨v, []⟩ }
  | portWrite (v : Word) (h : s.rdmaState = .writing) :
      Acted s (portAdvance (portCount s) { s with mem := memWrite s.cfg s.mem s.remoteDma (portCount s) v })

/-- The four ways an operation answers a next state. -/
inductive Answers (i : Instr) (s : State) : State → Prop where
  /-- nothing but the result -/
  | result (o : Output) (h : o.events = []) : Answers i s { s with out := o }
  /-- a free value was drawn -/
  | draw (v : HostVal) : Answers i s { s with out := ⟨some v, []⟩, draws := s.draws + 1 }
  /-- a register write -/
  | write (v : Byte) (u : State) (h : Stored v (opened s) u) : Answers i s (irqUpdate u)
  /-- an engine or the reset -/
  | act (u : State) (h : Acted (opened s) u) : Answers i s (irqUpdate u)

theorem Answers.of_regRead {i : Instr} {r : Byte} {w : Width} {s t : State} (h : regRead r w s = .next t) :
    Answers i s t := by
  cases h
  exact .result _ rfl

theorem Answers.of_regReadDraw {i : Instr} {w : Width} {s t : State} (h : regReadDraw w s = .next t) :
    Answers i s t := by
  cases h
  exact .draw _

theorem Answers.of_regWrite {i : Instr} {store : Byte → State → State} {v : HostVal} {s t : State}
    (hs : Stored (low8 v) (opened s) (store (low8 v) (opened s))) (h : regWrite store v s = .next t) :
    Answers i s t := by
  cases h
  exact .write _ _ hs

theorem Answers.of_crWrite {i : Instr} {v : HostVal} {s t : State} (h : crWrite v s = .next t) : Answers i s t := by
  unfold crWrite at h
  split at h
  · cases h
  · next hr => exact .of_regWrite (.commandRegister (show sendRefused (low8 v) s = false by simpa using hr)) h

theorem Answers.of_execDrd {i : Instr} {w : Width} {s t : State} (h : execDrd w s = .next t) : Answers i s t := by
  unfold execDrd at h
  split at h
  · cases h
    exact .draw _
  · next hr =>
    cases h
    exact .act _ (.portRead (s := opened s) _ (by simpa using hr))

theorem Answers.of_execDwr {i : Instr} {v : HostVal} {s t : State} (h : execDwr v s = .next t) : Answers i s t := by
  unfold execDwr at h
  split at h
  · cases h
    exact .result _ rfl
  · next hr =>
    cases h
    exact .act _ (.portWrite (s := opened s) _ (by simpa using hr))

theorem Answers.of_execRx {i : Instr} {frame : List Byte} {errs : Byte} {s t : State}
    (h : execRx frame errs s = .next t) : Answers i s t := by
  unfold execRx at h
  split at h
  · cases h
  next hd =>
  replace hd : verdictOk errs = true := by simpa using hd
  split at h
  · cases h
    exact .result _ rfl
  next hsil =>
  split at h
  · cases h
    exact .act _ (.refuse _ hd)
  next herr =>
  split at h
  · next hfit =>
    cases h
    refine .act _ (.store _ _ hd ⟨show rxSilent s frame = false by simpa using hsil, ?_, hfit⟩)
    by_cases he : errs = 0#8
    · exact .inl he
    · exact .inr (by simpa [he] using herr)
  · cases h
    exact .act _ .overflow

theorem Answers.of_execTxdone {i : Instr} {outcome : Byte} {s t : State} (h : execTxdone outcome s = .next t) :
    Answers i s t := by
  unfold execTxdone at h
  split at h
  · cases h
    exact .result _ rfl
  next hp =>
  split at h
  · cases h
  next ha =>
  cases h
  exact .act _ (.complete _ (by simpa using hp) (by simpa using ha))

theorem Answers.of_execHreset {i : Instr} {content : List Byte} {s t : State} (h : execHreset content s = .next t) :
    Answers i s t := by
  cases h
  exact .act _ (.reset _)

/-- The same with the store given by its kind. -/
theorem Answers.of_store {i : Instr} {s t : State} (v : Byte) (u : State) (hs : Stored v (opened s) u)
    (h : (.next (irqUpdate u) : Host.Outcome State Fault Refusal) = .next t) : Answers i s t := by
  cases h
  exact .write v u hs

/-- Every next state of an operation is one of the four kinds. -/
theorem exec_next {i : Instr} {s t : State} (h : exec i s = .next t) : Answers i s t := by
  cases i with
  | rdCr w => exact .of_regRead h
  | wrCr v => exact .of_crWrite h
  | rdP0Clda0 w => exact .of_regRead h
  | rdP0Clda1 w => exact .of_regRead h
  | rdP0Bnry w => exact .of_regRead h
  | rdP0Tsr w => exact .of_regRead h
  | rdP0Ncr w => exact .of_regRead h
  | rdP0Fifo w => exact .of_regRead h
  | rdP0Isr w => exact .of_regRead h
  | rdP0Crda0 w => exact .of_regRead h
  | rdP0Crda1 w => exact .of_regRead h
  | rdP0Id0 w => exact .of_regRead h
  | rdP0Id1 w => exact .of_regRead h
  | rdP0Rsr w => exact .of_regRead h
  | rdP0Cntr0 w => exact .of_regRead h
  | rdP0Cntr1 w => exact .of_regRead h
  | rdP0Cntr2 w => exact .of_regRead h
  | wrP0Pstart v => exact .of_store (low8 v) _ .wrP0Pstart h
  | wrP0Pstop v => exact .of_store (low8 v) _ .wrP0Pstop h
  | wrP0Bnry v => exact .of_store (low8 v) _ .wrP0Bnry h
  | wrP0Tpsr v => exact .of_store (low8 v) _ .wrP0Tpsr h
  | wrP0Tbcr0 v => exact .of_store (low8 v) _ .wrP0Tbcr0 h
  | wrP0Tbcr1 v => exact .of_store (low8 v) _ .wrP0Tbcr1 h
  | wrP0Isr v => exact .of_store (low8 v) _ .wrP0Isr h
  | wrP0Rsar0 v => exact .of_store (low8 v) _ .wrP0Rsar0 h
  | wrP0Rsar1 v => exact .of_store (low8 v) _ .wrP0Rsar1 h
  | wrP0Rbcr0 v => exact .of_store (low8 v) _ .wrP0Rbcr0 h
  | wrP0Rbcr1 v => exact .of_store (low8 v) _ .wrP0Rbcr1 h
  | wrP0Rcr v => exact .of_store (low8 v) _ .wrP0Rcr h
  | wrP0Tcr v => exact .of_store (low8 v) _ .wrP0Tcr h
  | wrP0Dcr v => exact .of_store (low8 v) _ .wrP0Dcr h
  | wrP0Imr v => exact .of_store (low8 v) _ .wrP0Imr h
  | rdP1Par0 w => exact .of_regRead h
  | rdP1Par1 w => exact .of_regRead h
  | rdP1Par2 w => exact .of_regRead h
  | rdP1Par3 w => exact .of_regRead h
  | rdP1Par4 w => exact .of_regRead h
  | rdP1Par5 w => exact .of_regRead h
  | wrP1Par0 v => exact .of_store (low8 v) _ .wrP1Par0 h
  | wrP1Par1 v => exact .of_store (low8 v) _ .wrP1Par1 h
  | wrP1Par2 v => exact .of_store (low8 v) _ .wrP1Par2 h
  | wrP1Par3 v => exact .of_store (low8 v) _ .wrP1Par3 h
  | wrP1Par4 v => exact .of_store (low8 v) _ .wrP1Par4 h
  | wrP1Par5 v => exact .of_store (low8 v) _ .wrP1Par5 h
  | rdP1Curr w => exact .of_regRead h
  | wrP1Curr v => exact .of_store (low8 v) _ .wrP1Curr h
  | rdP1Mar0 w => exact .of_regRead h
  | rdP1Mar1 w => exact .of_regRead h
  | rdP1Mar2 w => exact .of_regRead h
  | rdP1Mar3 w => exact .of_regRead h
  | rdP1Mar4 w => exact .of_regRead h
  | rdP1Mar5 w => exact .of_regRead h
  | rdP1Mar6 w => exact .of_regRead h
  | rdP1Mar7 w => exact .of_regRead h
  | wrP1Mar0 v => exact .of_store (low8 v) _ .wrP1Mar0 h
  | wrP1Mar1 v => exact .of_store (low8 v) _ .wrP1Mar1 h
  | wrP1Mar2 v => exact .of_store (low8 v) _ .wrP1Mar2 h
  | wrP1Mar3 v => exact .of_store (low8 v) _ .wrP1Mar3 h
  | wrP1Mar4 v => exact .of_store (low8 v) _ .wrP1Mar4 h
  | wrP1Mar5 v => exact .of_store (low8 v) _ .wrP1Mar5 h
  | wrP1Mar6 v => exact .of_store (low8 v) _ .wrP1Mar6 h
  | wrP1Mar7 v => exact .of_store (low8 v) _ .wrP1Mar7 h
  | rdP2Pstart w => exact .of_regRead h
  | rdP2Pstop w => exact .of_regRead h
  | rdP2Rnpp w => exact .of_regRead h
  | rdP2Tpsr w => exact .of_regRead h
  | rdP2Lnpp w => exact .of_regRead h
  | rdP2Acu w => exact .of_regRead h
  | rdP2Acl w => exact .of_regRead h
  | rdP2Off08 w => exact .of_regReadDraw h
  | rdP2Off09 w => exact .of_regReadDraw h
  | rdP2Off0A w => exact .of_regReadDraw h
  | rdP2Off0B w => exact .of_regReadDraw h
  | rdP2Rcr w => exact .of_regRead h
  | rdP2Tcr w => exact .of_regRead h
  | rdP2Dcr w => exact .of_regRead h
  | rdP2Imr w => exact .of_regRead h
  | wrP2Pstart v => exact .of_store (low8 v) _ .nothing h
  | wrP2Pstop v => exact .of_store (low8 v) _ .nothing h
  | wrP2Rnpp v => exact .of_store (low8 v) _ .wrP2Rnpp h
  | wrP2Tpsr v => exact .of_store (low8 v) _ .nothing h
  | wrP2Lnpp v => exact .of_store (low8 v) _ .wrP2Lnpp h
  | wrP2Acu v => exact .of_store (low8 v) _ .wrP2Acu h
  | wrP2Acl v => exact .of_store (low8 v) _ .wrP2Acl h
  | wrP2Off08 v => exact .of_store (low8 v) _ .nothing h
  | wrP2Off09 v => exact .of_store (low8 v) _ .nothing h
  | wrP2Off0A v => exact .of_store (low8 v) _ .nothing h
  | wrP2Off0B v => exact .of_store (low8 v) _ .nothing h
  | wrP2Rcr v => exact .of_store (low8 v) _ .nothing h
  | wrP2Tcr v => exact .of_store (low8 v) _ .nothing h
  | wrP2Dcr v => exact .of_store (low8 v) _ .nothing h
  | wrP2Imr v => exact .of_store (low8 v) _ .nothing h
  | rdP3Off01 w => exact .of_regReadDraw h
  | rdP3Off02 w => exact .of_regReadDraw h
  | rdP3Off03 w => exact .of_regReadDraw h
  | rdP3Off04 w => exact .of_regReadDraw h
  | rdP3Off05 w => exact .of_regReadDraw h
  | rdP3Off06 w => exact .of_regReadDraw h
  | rdP3Off07 w => exact .of_regReadDraw h
  | rdP3Off08 w => exact .of_regReadDraw h
  | rdP3Off09 w => exact .of_regReadDraw h
  | rdP3Off0A w => exact .of_regReadDraw h
  | rdP3Off0B w => exact .of_regReadDraw h
  | rdP3Off0C w => exact .of_regReadDraw h
  | rdP3Off0D w => exact .of_regReadDraw h
  | rdP3Off0E w => exact .of_regReadDraw h
  | rdP3Off0F w => exact .of_regReadDraw h
  | wrP3Off01 v => exact .of_store (low8 v) _ .nothing h
  | wrP3Off02 v => exact .of_store (low8 v) _ .nothing h
  | wrP3Off03 v => exact .of_store (low8 v) _ .nothing h
  | wrP3Off04 v => exact .of_store (low8 v) _ .nothing h
  | wrP3Off05 v => exact .of_store (low8 v) _ .nothing h
  | wrP3Off06 v => exact .of_store (low8 v) _ .nothing h
  | wrP3Off07 v => exact .of_store (low8 v) _ .nothing h
  | wrP3Off08 v => exact .of_store (low8 v) _ .nothing h
  | wrP3Off09 v => exact .of_store (low8 v) _ .nothing h
  | wrP3Off0A v => exact .of_store (low8 v) _ .nothing h
  | wrP3Off0B v => exact .of_store (low8 v) _ .nothing h
  | wrP3Off0C v => exact .of_store (low8 v) _ .nothing h
  | wrP3Off0D v => exact .of_store (low8 v) _ .nothing h
  | wrP3Off0E v => exact .of_store (low8 v) _ .nothing h
  | wrP3Off0F v => exact .of_store (low8 v) _ .nothing h
  | drd w => exact .of_execDrd h
  | dwr v => exact .of_execDwr h
  | rx frame errs => exact .of_execRx h
  | txdone outcome => exact .of_execTxdone h
  | hreset content => exact .of_execHreset h
  | crStop rest => exact .of_crWrite h
  | crStart high stop => exact .of_crWrite h
  | crXmit high => exact .of_crWrite h
  | crRdmaRd pgsel txpStart => exact .of_crWrite h
  | crRdmaWr pgsel txpStart => exact .of_crWrite h
  | crRdmaSend pgsel txpStart => exact .of_crWrite h
  | crRdmaAbort pgsel cmdLow txpStart => exact .of_crWrite h
  | crRdmaAbort0 pgsel txpStart => exact .of_crWrite h
  | crPage pgsel rest => exact .of_crWrite h

end Sys2Proof.Machine
end

