-- ==== Sys2Proof/Laws/Memory.lean ====
section
/-!
SUPPORT. Packet memory: a read after a write, the canonical form, and the same by chip address (R71 to R73).
-/

namespace Sys2Proof.Machine

/-! ## The array -/

theorem Memory.wfFrom_mono {low low' : Nat} (hl : low' ≤ low) {m : Memory} (h : Memory.wfFrom low m = true) :
    Memory.wfFrom low' m = true := by
  cases m with
  | nil => rfl
  | cons cell rest =>
    obtain ⟨a, b⟩ := cell
    simp only [Memory.wfFrom, Bool.and_eq_true, decide_eq_true_eq] at h ⊢
    exact ⟨⟨by omega, h.1.2⟩, h.2⟩

theorem Memory.read_below {low k : Nat} {m : Memory} (h : Memory.wfFrom low m = true) (hk : k < low) :
    Memory.read m k = Memory.unlisted := by
  induction m generalizing low with
  | nil => rfl
  | cons cell rest ih =>
    obtain ⟨a, b⟩ := cell
    simp only [Memory.wfFrom, Bool.and_eq_true, decide_eq_true_eq] at h
    simp only [Memory.read, show ¬k = a by omega, if_false]
    exact ih h.2 (by omega)

theorem Memory.read_cons_self (k : Nat) (v : Byte) {rest : Memory} (h : Memory.read rest k = Memory.unlisted) :
    Memory.read (Memory.cons k v rest) k = v := by
  unfold Memory.cons
  split
  · next hv => rw [h, hv]
  · simp [Memory.read]

theorem Memory.read_cons_of_ne {k j : Nat} (v : Byte) (rest : Memory) (h : j ≠ k) :
    Memory.read (Memory.cons k v rest) j = Memory.read rest j := by
  unfold Memory.cons
  split
  · rfl
  · simp [Memory.read, h]

/-- A read after a write to the same index gives the value written. -/
theorem Memory.read_write_self {low : Nat} {m : Memory} (h : Memory.wfFrom low m = true) (k : Nat) (v : Byte) :
    Memory.read (Memory.write m k v) k = v := by
  induction m generalizing low with
  | nil => exact Memory.read_cons_self k v rfl
  | cons cell rest ih =>
    obtain ⟨a, b⟩ := cell
    have h' := h
    simp only [Memory.wfFrom, Bool.and_eq_true, decide_eq_true_eq] at h'
    simp only [Memory.write]
    split
    · next hlt =>
      refine Memory.read_cons_self k v ?_
      simp only [Memory.read, show ¬k = a by omega, if_false]
      exact Memory.read_below h'.2 (by omega)
    split
    · next heq => exact Memory.read_cons_self k v (heq ▸ Memory.read_below h'.2 (by omega))
    · next hne =>
      simp only [Memory.read, hne, if_false]
      exact ih h'.2

/-- A write leaves every other index alone. -/
theorem Memory.read_write_of_ne {k j : Nat} (hj : j ≠ k) (m : Memory) (v : Byte) :
    Memory.read (Memory.write m k v) j = Memory.read m j := by
  induction m with
  | nil => exact Memory.read_cons_of_ne v [] hj
  | cons cell rest ih =>
    obtain ⟨a, b⟩ := cell
    simp only [Memory.write]
    split
    · exact Memory.read_cons_of_ne v _ hj
    split
    · next heq =>
      rw [Memory.read_cons_of_ne v _ hj]
      simp [Memory.read, show ¬j = a by omega]
    · simp only [Memory.read, ih]

theorem Memory.wfFrom_cons {low k : Nat} (hk : low ≤ k) (v : Byte) {rest : Memory}
    (h : Memory.wfFrom (k + 1) rest = true) : Memory.wfFrom low (Memory.cons k v rest) = true := by
  unfold Memory.cons
  split
  · exact Memory.wfFrom_mono (by omega) h
  · next hv => simp [Memory.wfFrom, hk, hv, h]

theorem Memory.wfFrom_write {low k : Nat} {m : Memory} (h : Memory.wfFrom low m = true) (hk : low ≤ k) (v : Byte) :
    Memory.wfFrom low (Memory.write m k v) = true := by
  induction m generalizing low with
  | nil => exact Memory.wfFrom_cons hk v rfl
  | cons cell rest ih =>
    obtain ⟨a, b⟩ := cell
    have h' := h
    simp only [Memory.wfFrom, Bool.and_eq_true, decide_eq_true_eq] at h'
    simp only [Memory.write]
    split
    · next hlt =>
      refine Memory.wfFrom_cons hk v ?_
      simp only [Memory.wfFrom, Bool.and_eq_true, decide_eq_true_eq]
      exact ⟨⟨by omega, h'.1.2⟩, h'.2⟩
    split
    · next heq => exact Memory.wfFrom_cons hk v (heq ▸ h'.2)
    · next hne =>
      simp only [Memory.wfFrom, Bool.and_eq_true, decide_eq_true_eq]
      exact ⟨h'.1, ih h'.2 (by omega)⟩

/-- A write keeps the canonical form. -/
theorem Memory.wf_write {m : Memory} (h : Memory.wf m = true) (k : Nat) (v : Byte) :
    Memory.wf (Memory.write m k v) = true :=
  Memory.wfFrom_write h (Nat.zero_le k) v

theorem Memory.within_cons {size k : Nat} (hk : k < size) (v : Byte) {rest : Memory}
    (h : Memory.within size rest = true) : Memory.within size (Memory.cons k v rest) = true := by
  unfold Memory.cons
  split
  · exact h
  · simpa [Memory.within, hk] using h

/-- A write inside the array keeps every cell inside the array. -/
theorem Memory.within_write {size k : Nat} (hk : k < size) (v : Byte) {m : Memory}
    (h : Memory.within size m = true) : Memory.within size (Memory.write m k v) = true := by
  induction m with
  | nil => exact Memory.within_cons hk v rfl
  | cons cell rest ih =>
    obtain ⟨a, b⟩ := cell
    have h' : a < size ∧ Memory.within size rest = true := by simpa [Memory.within] using h
    simp only [Memory.write]
    split
    · exact Memory.within_cons hk v h
    split
    · exact Memory.within_cons hk v h'.2
    · have := ih h'.2
      simp only [Memory.within, List.all_cons, Bool.and_eq_true, decide_eq_true_eq] at this ⊢
      exact ⟨h'.1, this⟩

theorem Memory.wfFrom_ofBytes (k : Nat) (bytes : List Byte) : Memory.wfFrom k (Memory.ofBytes k bytes) = true := by
  induction bytes generalizing k with
  | nil => rfl
  | cons b rest ih => exact Memory.wfFrom_cons (Nat.le_refl k) b (ih (k + 1))

theorem Memory.within_ofBytes {size : Nat} (k : Nat) (bytes : List Byte) (h : k + bytes.length ≤ size) :
    Memory.within size (Memory.ofBytes k bytes) = true := by
  induction bytes generalizing k with
  | nil => rfl
  | cons b rest ih =>
    simp only [List.length_cons] at h
    exact Memory.within_cons (by omega) b (ih (k + 1) (by omega))

/-- The content a reset leaves reads back byte for byte (R383). -/
theorem Memory.read_ofBytes (k : Nat) (bytes : List Byte) (i : Nat) (h : i < bytes.length) :
    Memory.read (Memory.ofBytes k bytes) (k + i) = bytes[i] := by
  induction bytes generalizing k i with
  | nil => simp at h
  | cons b rest ih =>
    cases i with
    | zero => exact Memory.read_cons_self k b (Memory.read_below (Memory.wfFrom_ofBytes (k + 1) rest) (by omega))
    | succ n =>
      have hn : n < rest.length := by simpa using h
      rw [Memory.ofBytes, Memory.read_cons_of_ne b _ (by omega), show k + (n + 1) = k + 1 + n by omega,
        ih (k + 1) n hn]
      rfl

/-! ## By chip address -/

/-- A translated address lies inside the array (R71). -/
theorem chipAddr_lt {c : Config} {a : Word} {k : Nat} (h : chipAddr c a = some k) : k < c.memSize := by
  unfold chipAddr at h
  dsimp only at h
  generalize (if c.memWrap = 0 then a.toNat else a.toNat % c.memWrap) = a1 at h
  split at h
  · next hw =>
    injection h with h
    unfold Params.memEnd at hw
    omega
  · cases h

/-- What one byte store at a chip address can do (R73). -/
theorem writeByte_cases (c : Config) (m : Memory) (a : Word) (b : Byte) :
    (chipAddr c a = none ∧ writeByte c m a b = m) ∨
      ∃ k, chipAddr c a = some k ∧ writeByte c m a b = Memory.write m k b := by
  unfold writeByte
  split
  · next k hk => exact .inr ⟨k, hk, rfl⟩
  · next hn => exact .inl ⟨hn, rfl⟩

theorem writeByte_wf (c : Config) {m : Memory} (h : Memory.wf m = true) (a : Word) (b : Byte) :
    Memory.wf (writeByte c m a b) = true := by
  obtain ⟨_, e⟩ | ⟨k, _, e⟩ := writeByte_cases c m a b
  · rwa [e]
  · rw [e]
    exact Memory.wf_write h k b

theorem writeByte_within (c : Config) {m : Memory} (h : Memory.within c.memSize m = true) (a : Word) (b : Byte) :
    Memory.within c.memSize (writeByte c m a b) = true := by
  obtain ⟨_, e⟩ | ⟨k, hk, e⟩ := writeByte_cases c m a b
  · rwa [e]
  · rw [e]
    exact Memory.within_write (chipAddr_lt hk) b h

/-- An index the address does not translate to keeps its byte. -/
theorem read_writeByte_of_ne {c : Config} {a : Word} {j : Nat} (h : chipAddr c a ≠ some j) (m : Memory) (b : Byte) :
    Memory.read (writeByte c m a b) j = Memory.read m j := by
  obtain ⟨_, e⟩ | ⟨k, hk, e⟩ := writeByte_cases c m a b
  · rw [e]
  · rw [e]
    exact Memory.read_write_of_ne (fun hj => h (by rw [hk, hj])) m b

/-- The index the address translates to holds the byte. -/
theorem read_writeByte_self {c : Config} {a : Word} {k : Nat} (h : chipAddr c a = some k) {m : Memory}
    (hm : Memory.wf m = true) (b : Byte) : Memory.read (writeByte c m a b) k = b := by
  simp only [writeByte, h]
  exact Memory.read_write_self hm k b

theorem memWrite_wf (c : Config) {m : Memory} (h : Memory.wf m = true) (a : Word) (n : Nat) (v : Word) :
    Memory.wf (memWrite c m a n v) = true := by
  induction n generalizing m a v with
  | zero => exact h
  | succ n ih => exact ih (writeByte_wf c h a _) _ _

theorem memWrite_within (c : Config) {m : Memory} (h : Memory.within c.memSize m = true) (a : Word) (n : Nat)
    (v : Word) : Memory.within c.memSize (memWrite c m a n v) = true := by
  induction n generalizing m a v with
  | zero => exact h
  | succ n ih => exact ih (writeByte_within c h a _) _ _

/-- `MemWrite` changes only the bytes its addresses translate to. -/
theorem read_memWrite_of_ne {c : Config} {a : Word} {n j : Nat}
    (h : ∀ i, i < n → chipAddr c (a + BitVec.ofNat 16 i) ≠ some j) (m : Memory) (v : Word) :
    Memory.read (memWrite c m a n v) j = Memory.read m j := by
  induction n generalizing m a v with
  | zero => rfl
  | succ n ih =>
    rw [memWrite, ih, read_writeByte_of_ne]
    · simpa using h 0 (by omega)
    · intro i hi
      have := h (i + 1) (by omega)
      rwa [show BitVec.ofNat 16 (i + 1) = 1#16 + BitVec.ofNat 16 i by
        rw [Nat.add_comm]; exact BitVec.ofNat_add 1 i, ← BitVec.add_assoc] at this

theorem writeBytes_wf (c : Config) (addr : Nat → Word) (i : Nat) {m : Memory} (h : Memory.wf m = true)
    (bytes : List Byte) : Memory.wf (writeBytes c addr i m bytes) = true := by
  induction bytes generalizing i m with
  | nil => exact h
  | cons b rest ih => exact ih (i + 1) (writeByte_wf c h _ b)

theorem writeBytes_within (c : Config) (addr : Nat → Word) (i : Nat) {m : Memory}
    (h : Memory.within c.memSize m = true) (bytes : List Byte) :
    Memory.within c.memSize (writeBytes c addr i m bytes) = true := by
  induction bytes generalizing i m with
  | nil => exact h
  | cons b rest ih => exact ih (i + 1) (writeByte_within c h _ b)

/-- A ring write changes only the bytes its addresses translate to (R242). -/
theorem read_writeBytes_of_ne {c : Config} {addr : Nat → Word} {i j : Nat} {bytes : List Byte}
    (h : ∀ n, n < bytes.length → chipAddr c (addr (i + n)) ≠ some j) (m : Memory) :
    Memory.read (writeBytes c addr i m bytes) j = Memory.read m j := by
  induction bytes generalizing i m with
  | nil => rfl
  | cons b rest ih =>
    rw [writeBytes, ih, read_writeByte_of_ne]
    · simpa using h 0 (by simp)
    · intro n hn
      rw [show i + 1 + n = i + (n + 1) by omega]
      exact h (n + 1) (by simpa using hn)

/-- A byte of a ring write that no later byte of it hits is what its index reads as afterwards (R242). -/
theorem read_writeBytes_self {c : Config} {addr : Nat → Word} {i j : Nat} {bytes : List Byte} (n : Nat)
    (hn : n < bytes.length) (hj : chipAddr c (addr (i + n)) = some j)
    (last : ∀ n', n < n' → n' < bytes.length → chipAddr c (addr (i + n')) ≠ some j) {m : Memory}
    (hm : Memory.wf m = true) : Memory.read (writeBytes c addr i m bytes) j = bytes[n] := by
  induction bytes generalizing i m n with
  | nil => simp at hn
  | cons b rest ih =>
    cases n with
    | zero =>
      rw [writeBytes, read_writeBytes_of_ne]
      · exact read_writeByte_self (by simpa using hj) hm b
      · intro n' hn'
        rw [show i + 1 + n' = i + (n' + 1) by omega]
        exact last (n' + 1) (by omega) (by simpa using hn')
    | succ n =>
      have hn' : n < rest.length := by simpa using hn
      rw [writeBytes, List.getElem_cons_succ]
      refine ih n hn' ?_ ?_ (writeByte_wf c hm _ b)
      · rwa [show i + 1 + n = i + (n + 1) by omega]
      · intro n' h1 h2
        rw [show i + 1 + n' = i + (n' + 1) by omega]
        exact last (n' + 1) (by omega) (by simpa using h2)

end Sys2Proof.Machine
end

