-- ==== Sys2Proof/Laws/Ops.lean ====
section
/-!
SUPPORT. One lemma per shared operation, saying once what it does.
-/

namespace Sys2Proof.Machine

/-! ## The interrupt update (R344) -/

/-- After it the line shows the line function. -/
theorem irqUpdate_lineSettled (s : State) : (irqUpdate s).lineSettled := rfl

/-- Nothing is emitted, and nothing changes, where the line already shows the line function. -/
theorem irqUpdate_of_lineSettled {s : State} (h : s.lineSettled) : irqUpdate s = s := by
  unfold State.lineSettled at h
  unfold irqUpdate irqEvents
  rw [← h, if_pos rfl, List.append_nil]

/-- Only the line and the events can change. -/
theorem irqUpdate_frame (s : State) :
    irqUpdate s = { s with irqLine := (irqUpdate s).irqLine, out := (irqUpdate s).out } := rfl

/-- It returns nothing to the host. -/
theorem irqUpdate_value (s : State) : (irqUpdate s).out.value = s.out.value := rfl

/-- It sends no frame. -/
theorem irqUpdate_sentFrames (s : State) : sentFrames (irqUpdate s).out = sentFrames s.out := by
  simp only [sentFrames, irqUpdate_out, irqEvents, List.filterMap_append]
  split <;> simp

/-- The sink is called exactly when the line changes. -/
theorem irqUpdate_sinkEvents (s : State) :
    sinkEvents (irqUpdate s).out = sinkEvents s.out ++ irqEvents s.irqLine (lineActive s.isr s.imr) := by
  simp only [sinkEvents, irqUpdate_out, List.filter_append, irqEvents]
  split <;> simp

/-- A register write whose store touches neither ISR, IMR nor the line emits nothing. -/
theorem regWrite_of_lineSettled {store : Byte → State → State} {v : HostVal} {s : State}
    (h : (store (low8 v) (opened s)).lineSettled) : regWrite store v s = .next (store (low8 v) (opened s)) := by
  rw [regWrite, irqUpdate_of_lineSettled h, done]

/-! ## The command register (R201) -/

/-- Steps 2 to 5 as one update. -/
theorem crFields_eq (v : Byte) (s : State) :
    crFields v s = { s with
      cr := ⟨stpBit v, staBit v, s.cr.txPacket && !stpBit v, cmdField v, pageField v⟩
      rdmaState := if stpBit v then .idle else s.rdmaState
      rdmaRemaining := if stpBit v then 0#16 else s.rdmaRemaining
      isr := if stpBit v then s.isr ||| isrReset else s.isr } := by
  unfold crFields softReset
  cases stpBit v <;> simp

/-- What issuing a command can do (R301): nothing, a start, or an abort. -/
theorem rdmaIssue_cases (oldClass newClass : RdmaClass) (s : State) :
    rdmaIssue oldClass newClass s = s ∨
      (newClass = .read ∧ rdmaIssue oldClass newClass s = rdmaStart .reading s) ∨
      (newClass = .write ∧ rdmaIssue oldClass newClass s = rdmaStart .writing s) ∨
      ((newClass = .abort ∨ newClass = .send) ∧ rdmaIssue oldClass newClass s = rdmaAbort s) := by
  cases newClass <;> simp only [rdmaIssue] <;> split <;> simp

/-- Issuing a command changes the remote-DMA engine and ISR only. -/
theorem rdmaIssue_frame (oldClass newClass : RdmaClass) (s : State) :
    rdmaIssue oldClass newClass s = { s with
      remoteDma := (rdmaIssue oldClass newClass s).remoteDma
      rdmaRemaining := (rdmaIssue oldClass newClass s).rdmaRemaining
      rdmaState := (rdmaIssue oldClass newClass s).rdmaState
      isr := (rdmaIssue oldClass newClass s).isr } := by
  obtain h | ⟨_, h⟩ | ⟨_, h⟩ | ⟨_, h⟩ := rdmaIssue_cases oldClass newClass s <;> rw [h] <;> rfl

/-- Step 6 of a CR write changes the same. -/
theorem crIssue_frame (oldClass : RdmaClass) (v : Byte) (s : State) :
    crIssue oldClass v s = { s with
      remoteDma := (crIssue oldClass v s).remoteDma
      rdmaRemaining := (crIssue oldClass v s).rdmaRemaining
      rdmaState := (crIssue oldClass v s).rdmaState
      isr := (crIssue oldClass v s).isr } := by
  unfold crIssue
  split
  · rfl
  · exact rdmaIssue_frame ..

/-- The trigger of a CR write happens or it does not. -/
theorem crTrigger_cases (oldTxp : Bool) (v : Byte) (s : State) :
    (txpBit v && running s.cr && !oldTxp) = true ∧ crTrigger oldTxp v s = txTrigger s ∨
      (txpBit v && running s.cr && !oldTxp) = false ∧ crTrigger oldTxp v s = s := by
  unfold crTrigger
  split
  · next h => exact .inl ⟨h, rfl⟩
  · next h => exact .inr ⟨by simpa using h, rfl⟩

/-- The fetch of the trigger does not depend on what steps 2 to 6 changed (R271). -/
theorem txFetch_crIssue (oldClass : RdmaClass) (v w : Byte) (s : State) :
    txFetch (crIssue oldClass v (crFields w s)) = txFetch s := by
  rw [crIssue_frame, crFields_eq]
  rfl

/-- A CR write changes nothing but CR, TSR, ISR, the remote-DMA engine and the result. -/
theorem crStore_frame (v : Byte) (s : State) :
    crStore v s = { s with
      cr := (crStore v s).cr
      isr := (crStore v s).isr
      tsr := (crStore v s).tsr
      remoteDma := (crStore v s).remoteDma
      rdmaRemaining := (crStore v s).rdmaRemaining
      rdmaState := (crStore v s).rdmaState
      out := (crStore v s).out } := by
  unfold crStore
  obtain ⟨_, h⟩ | ⟨_, h⟩ := crTrigger_cases s.cr.txPacket v (crIssue (decodeRdma s.cr.rdmaCmd) v (crFields v s)) <;>
    rw [h, crIssue_frame, crFields_eq] <;> rfl

/-- CR after the write, before any trigger (steps 2 to 6). -/
theorem crIssue_cr (oldClass : RdmaClass) (v : Byte) (s : State) :
    (crIssue oldClass v (crFields v s)).cr =
      ⟨stpBit v, staBit v, s.cr.txPacket && !stpBit v, cmdField v, pageField v⟩ := by
  rw [crIssue_frame, crFields_eq]

/-- CR after the write (R201): every field as written, but for `tx_packet`, which a stop clears, and which a trigger sets. -/
theorem crStore_cr (v : Byte) (s : State) :
    (crStore v s).cr =
      ⟨stpBit v, staBit v,
        !stpBit v && (s.cr.txPacket || (txpBit v && staBit v)), cmdField v, pageField v⟩ := by
  unfold crStore
  obtain ⟨hc, h⟩ | ⟨hc, h⟩ :=
    crTrigger_cases s.cr.txPacket v (crIssue (decodeRdma s.cr.rdmaCmd) v (crFields v s)) <;>
    rw [crIssue_cr, running] at hc <;> rw [h]
  · rw [txTrigger_cr, crIssue_cr]
    revert hc
    cases stpBit v <;> cases staBit v <;> cases txpBit v <;> cases s.cr.txPacket <;> simp
  · rw [crIssue_cr]
    revert hc
    cases stpBit v <;> cases staBit v <;> cases txpBit v <;> cases s.cr.txPacket <;> simp

/-! ## The data port (R307, R308) -/

/-- An access moves at most two bytes. -/
theorem portCount_le (s : State) : portCount s ≤ 2 := by
  unfold portCount
  split <;> omega

/-- The advance changes nothing but the cursor, the count, the engine's state and ISR. -/
theorem portAdvance_frame (n : Nat) (s : State) :
    portAdvance n s = { s with
      remoteDma := (portAdvance n s).remoteDma
      rdmaRemaining := (portAdvance n s).rdmaRemaining
      rdmaState := (portAdvance n s).rdmaState
      isr := (portAdvance n s).isr } := rfl

/-! ## The receive engine (R230) -/

/-- A stored frame changes nothing but memory, `curr_page`, RSR and ISR. -/
theorem rxStore_frame (frame : List Byte) (errs : Byte) (s : State) :
    rxStore frame errs s = { s with
      mem := (rxStore frame errs s).mem
      currPage := (rxStore frame errs s).currPage
      rsr := (rxStore frame errs s).rsr
      isr := (rxStore frame errs s).isr } := rfl

/-- The pages of a frame: at least one. -/
theorem pagesFor_pos (length : Nat) : 0 < pagesFor length := by
  unfold pagesFor
  omega

/-- There are never more pages available than the ring has (R238). -/
theorem ringAvail_le (s : State) : ringAvail s ≤ ringSize s := by
  unfold ringAvail
  split
  · omega
  · next h =>
    dsimp only
    split
    · exact Nat.le_refl _
    · have := Int.emod_lt_of_pos ((s.boundPtr.toNat : Int) - (s.currPage.toNat : Int))
        (show (0 : Int) < (ringSize s : Int) by omega)
      omega

/-! ## Construction (R356) -/

/-- The validity conditions of R8, as propositions. -/
theorem params_valid_iff (p : Params) : p.valid = true ↔
    (p.memSize = 8192 ∨ p.memSize = 32768) ∧ p.memEnd ≤ 65536 ∧ p.memWrap ≤ 65536 ∧ 0 < p.txLatency := by
  simp [Params.valid, and_assoc]

/-- Valid parameters give the attached core. -/
theorem construct_of_valid {p : Params} (valid : p.valid = true) :
    State.construct p = some (State.attach ⟨p, valid⟩) := dif_pos valid

/-- Invalid parameters give no instance. -/
theorem construct_of_invalid {p : Params} (invalid : ¬ p.valid = true) : State.construct p = none := dif_neg invalid

end Sys2Proof.Machine
end

