-- ==== Sys2Proof/Laws/PerInstr.lean ====
section
/-!
SUPPORT. The family `OpcodeRow` of statements about every operation as syntax: the operation is encoded as its row of
spec/opcode_table.json says (R101).
-/

namespace Sys2Proof.Laws.OpcodeRow

/-- `(sel & mask) = match` (R101): `sel` is the selector of the request on every page the row stands on. For a row of format
CRVAL the value written takes the place of the selector. -/
def Statement (i : Instr) : Prop :=
  match crValue i with
  | some v => v &&& (opcodeRow i).2 = (opcodeRow i).1
  | none => ∀ page : BitVec 2, (rowPage i = none ∨ rowPage i = some page) →
      selector page (encode i) &&& (opcodeRow i).2 = (opcodeRow i).1

theorem of_busRead {i : Instr} {off : Nat} {p : BitVec 2} {w : Width} {m : Byte} (hc : crValue i = none)
    (he : encode i = busRead off w) (hp : rowPage i = some p) (hr : opcodeRow i = (m, 0xFF#8))
    (hm : (0b00#2 ++ p ++ BitVec.ofNat 4 off : Byte) &&& 0xFF#8 = m) : Statement i := by
  unfold Statement
  rw [hc, he, hp, hr]
  rintro page (h | h)
  · cases h
  · cases h
    cases w <;> exact hm

theorem of_busWrite {i : Instr} {off : Nat} {p : BitVec 2} {v : HostVal} {m : Byte} (hc : crValue i = none)
    (he : encode i = busWrite off v) (hp : rowPage i = some p) (hr : opcodeRow i = (m, 0xFF#8))
    (hm : (0b01#2 ++ p ++ BitVec.ofNat 4 off : Byte) &&& 0xFF#8 = m) : Statement i := by
  unfold Statement
  rw [hc, he, hp, hr]
  rintro page (h | h)
  · cases h
  · cases h
    cases v <;> exact hm

theorem rdCr (w : Width) : Statement (.rdCr w) := fun page _ => by cases w <;> (revert page; decide)

theorem wrCr (v : HostVal) : Statement (.wrCr v) := fun page _ => by
  have h : ∀ page : BitVec 2, (0b01#2 ++ page ++ 0#4 : Byte) &&& 0xCF#8 = 0x40#8 := by decide
  cases v <;> exact h page

theorem rdP0Clda0 (w : Width) : Statement (.rdP0Clda0 w) := of_busRead rfl rfl rfl rfl rfl

theorem rdP0Clda1 (w : Width) : Statement (.rdP0Clda1 w) := of_busRead rfl rfl rfl rfl rfl

theorem rdP0Bnry (w : Width) : Statement (.rdP0Bnry w) := of_busRead rfl rfl rfl rfl rfl

theorem rdP0Tsr (w : Width) : Statement (.rdP0Tsr w) := of_busRead rfl rfl rfl rfl rfl

theorem rdP0Ncr (w : Width) : Statement (.rdP0Ncr w) := of_busRead rfl rfl rfl rfl rfl

theorem rdP0Fifo (w : Width) : Statement (.rdP0Fifo w) := of_busRead rfl rfl rfl rfl rfl

theorem rdP0Isr (w : Width) : Statement (.rdP0Isr w) := of_busRead rfl rfl rfl rfl rfl

theorem rdP0Crda0 (w : Width) : Statement (.rdP0Crda0 w) := of_busRead rfl rfl rfl rfl rfl

theorem rdP0Crda1 (w : Width) : Statement (.rdP0Crda1 w) := of_busRead rfl rfl rfl rfl rfl

theorem rdP0Id0 (w : Width) : Statement (.rdP0Id0 w) := of_busRead rfl rfl rfl rfl rfl

theorem rdP0Id1 (w : Width) : Statement (.rdP0Id1 w) := of_busRead rfl rfl rfl rfl rfl

theorem rdP0Rsr (w : Width) : Statement (.rdP0Rsr w) := of_busRead rfl rfl rfl rfl rfl

theorem rdP0Cntr0 (w : Width) : Statement (.rdP0Cntr0 w) := of_busRead rfl rfl rfl rfl rfl

theorem rdP0Cntr1 (w : Width) : Statement (.rdP0Cntr1 w) := of_busRead rfl rfl rfl rfl rfl

theorem rdP0Cntr2 (w : Width) : Statement (.rdP0Cntr2 w) := of_busRead rfl rfl rfl rfl rfl

theorem wrP0Pstart (v : HostVal) : Statement (.wrP0Pstart v) := of_busWrite rfl rfl rfl rfl rfl

theorem wrP0Pstop (v : HostVal) : Statement (.wrP0Pstop v) := of_busWrite rfl rfl rfl rfl rfl

theorem wrP0Bnry (v : HostVal) : Statement (.wrP0Bnry v) := of_busWrite rfl rfl rfl rfl rfl

theorem wrP0Tpsr (v : HostVal) : Statement (.wrP0Tpsr v) := of_busWrite rfl rfl rfl rfl rfl

theorem wrP0Tbcr0 (v : HostVal) : Statement (.wrP0Tbcr0 v) := of_busWrite rfl rfl rfl rfl rfl

theorem wrP0Tbcr1 (v : HostVal) : Statement (.wrP0Tbcr1 v) := of_busWrite rfl rfl rfl rfl rfl

theorem wrP0Isr (v : HostVal) : Statement (.wrP0Isr v) := of_busWrite rfl rfl rfl rfl rfl

theorem wrP0Rsar0 (v : HostVal) : Statement (.wrP0Rsar0 v) := of_busWrite rfl rfl rfl rfl rfl

theorem wrP0Rsar1 (v : HostVal) : Statement (.wrP0Rsar1 v) := of_busWrite rfl rfl rfl rfl rfl

theorem wrP0Rbcr0 (v : HostVal) : Statement (.wrP0Rbcr0 v) := of_busWrite rfl rfl rfl rfl rfl

theorem wrP0Rbcr1 (v : HostVal) : Statement (.wrP0Rbcr1 v) := of_busWrite rfl rfl rfl rfl rfl

theorem wrP0Rcr (v : HostVal) : Statement (.wrP0Rcr v) := of_busWrite rfl rfl rfl rfl rfl

theorem wrP0Tcr (v : HostVal) : Statement (.wrP0Tcr v) := of_busWrite rfl rfl rfl rfl rfl

theorem wrP0Dcr (v : HostVal) : Statement (.wrP0Dcr v) := of_busWrite rfl rfl rfl rfl rfl

theorem wrP0Imr (v : HostVal) : Statement (.wrP0Imr v) := of_busWrite rfl rfl rfl rfl rfl

theorem rdP1Par0 (w : Width) : Statement (.rdP1Par0 w) := of_busRead rfl rfl rfl rfl rfl

theorem rdP1Par1 (w : Width) : Statement (.rdP1Par1 w) := of_busRead rfl rfl rfl rfl rfl

theorem rdP1Par2 (w : Width) : Statement (.rdP1Par2 w) := of_busRead rfl rfl rfl rfl rfl

theorem rdP1Par3 (w : Width) : Statement (.rdP1Par3 w) := of_busRead rfl rfl rfl rfl rfl

theorem rdP1Par4 (w : Width) : Statement (.rdP1Par4 w) := of_busRead rfl rfl rfl rfl rfl

theorem rdP1Par5 (w : Width) : Statement (.rdP1Par5 w) := of_busRead rfl rfl rfl rfl rfl

theorem wrP1Par0 (v : HostVal) : Statement (.wrP1Par0 v) := of_busWrite rfl rfl rfl rfl rfl

theorem wrP1Par1 (v : HostVal) : Statement (.wrP1Par1 v) := of_busWrite rfl rfl rfl rfl rfl

theorem wrP1Par2 (v : HostVal) : Statement (.wrP1Par2 v) := of_busWrite rfl rfl rfl rfl rfl

theorem wrP1Par3 (v : HostVal) : Statement (.wrP1Par3 v) := of_busWrite rfl rfl rfl rfl rfl

theorem wrP1Par4 (v : HostVal) : Statement (.wrP1Par4 v) := of_busWrite rfl rfl rfl rfl rfl

theorem wrP1Par5 (v : HostVal) : Statement (.wrP1Par5 v) := of_busWrite rfl rfl rfl rfl rfl

theorem rdP1Curr (w : Width) : Statement (.rdP1Curr w) := of_busRead rfl rfl rfl rfl rfl

theorem wrP1Curr (v : HostVal) : Statement (.wrP1Curr v) := of_busWrite rfl rfl rfl rfl rfl

theorem rdP1Mar0 (w : Width) : Statement (.rdP1Mar0 w) := of_busRead rfl rfl rfl rfl rfl

theorem rdP1Mar1 (w : Width) : Statement (.rdP1Mar1 w) := of_busRead rfl rfl rfl rfl rfl

theorem rdP1Mar2 (w : Width) : Statement (.rdP1Mar2 w) := of_busRead rfl rfl rfl rfl rfl

theorem rdP1Mar3 (w : Width) : Statement (.rdP1Mar3 w) := of_busRead rfl rfl rfl rfl rfl

theorem rdP1Mar4 (w : Width) : Statement (.rdP1Mar4 w) := of_busRead rfl rfl rfl rfl rfl

theorem rdP1Mar5 (w : Width) : Statement (.rdP1Mar5 w) := of_busRead rfl rfl rfl rfl rfl

theorem rdP1Mar6 (w : Width) : Statement (.rdP1Mar6 w) := of_busRead rfl rfl rfl rfl rfl

theorem rdP1Mar7 (w : Width) : Statement (.rdP1Mar7 w) := of_busRead rfl rfl rfl rfl rfl

theorem wrP1Mar0 (v : HostVal) : Statement (.wrP1Mar0 v) := of_busWrite rfl rfl rfl rfl rfl

theorem wrP1Mar1 (v : HostVal) : Statement (.wrP1Mar1 v) := of_busWrite rfl rfl rfl rfl rfl

theorem wrP1Mar2 (v : HostVal) : Statement (.wrP1Mar2 v) := of_busWrite rfl rfl rfl rfl rfl

theorem wrP1Mar3 (v : HostVal) : Statement (.wrP1Mar3 v) := of_busWrite rfl rfl rfl rfl rfl

theorem wrP1Mar4 (v : HostVal) : Statement (.wrP1Mar4 v) := of_busWrite rfl rfl rfl rfl rfl

theorem wrP1Mar5 (v : HostVal) : Statement (.wrP1Mar5 v) := of_busWrite rfl rfl rfl rfl rfl

theorem wrP1Mar6 (v : HostVal) : Statement (.wrP1Mar6 v) := of_busWrite rfl rfl rfl rfl rfl

theorem wrP1Mar7 (v : HostVal) : Statement (.wrP1Mar7 v) := of_busWrite rfl rfl rfl rfl rfl

theorem rdP2Pstart (w : Width) : Statement (.rdP2Pstart w) := of_busRead rfl rfl rfl rfl rfl

theorem rdP2Pstop (w : Width) : Statement (.rdP2Pstop w) := of_busRead rfl rfl rfl rfl rfl

theorem rdP2Rnpp (w : Width) : Statement (.rdP2Rnpp w) := of_busRead rfl rfl rfl rfl rfl

theorem rdP2Tpsr (w : Width) : Statement (.rdP2Tpsr w) := of_busRead rfl rfl rfl rfl rfl

theorem rdP2Lnpp (w : Width) : Statement (.rdP2Lnpp w) := of_busRead rfl rfl rfl rfl rfl

theorem rdP2Acu (w : Width) : Statement (.rdP2Acu w) := of_busRead rfl rfl rfl rfl rfl

theorem rdP2Acl (w : Width) : Statement (.rdP2Acl w) := of_busRead rfl rfl rfl rfl rfl

theorem rdP2Off08 (w : Width) : Statement (.rdP2Off08 w) := of_busRead rfl rfl rfl rfl rfl

theorem rdP2Off09 (w : Width) : Statement (.rdP2Off09 w) := of_busRead rfl rfl rfl rfl rfl

theorem rdP2Off0A (w : Width) : Statement (.rdP2Off0A w) := of_busRead rfl rfl rfl rfl rfl

theorem rdP2Off0B (w : Width) : Statement (.rdP2Off0B w) := of_busRead rfl rfl rfl rfl rfl

theorem rdP2Rcr (w : Width) : Statement (.rdP2Rcr w) := of_busRead rfl rfl rfl rfl rfl

theorem rdP2Tcr (w : Width) : Statement (.rdP2Tcr w) := of_busRead rfl rfl rfl rfl rfl

theorem rdP2Dcr (w : Width) : Statement (.rdP2Dcr w) := of_busRead rfl rfl rfl rfl rfl

theorem rdP2Imr (w : Width) : Statement (.rdP2Imr w) := of_busRead rfl rfl rfl rfl rfl

theorem wrP2Pstart (v : HostVal) : Statement (.wrP2Pstart v) := of_busWrite rfl rfl rfl rfl rfl

theorem wrP2Pstop (v : HostVal) : Statement (.wrP2Pstop v) := of_busWrite rfl rfl rfl rfl rfl

theorem wrP2Rnpp (v : HostVal) : Statement (.wrP2Rnpp v) := of_busWrite rfl rfl rfl rfl rfl

theorem wrP2Tpsr (v : HostVal) : Statement (.wrP2Tpsr v) := of_busWrite rfl rfl rfl rfl rfl

theorem wrP2Lnpp (v : HostVal) : Statement (.wrP2Lnpp v) := of_busWrite rfl rfl rfl rfl rfl

theorem wrP2Acu (v : HostVal) : Statement (.wrP2Acu v) := of_busWrite rfl rfl rfl rfl rfl

theorem wrP2Acl (v : HostVal) : Statement (.wrP2Acl v) := of_busWrite rfl rfl rfl rfl rfl

theorem wrP2Off08 (v : HostVal) : Statement (.wrP2Off08 v) := of_busWrite rfl rfl rfl rfl rfl

theorem wrP2Off09 (v : HostVal) : Statement (.wrP2Off09 v) := of_busWrite rfl rfl rfl rfl rfl

theorem wrP2Off0A (v : HostVal) : Statement (.wrP2Off0A v) := of_busWrite rfl rfl rfl rfl rfl

theorem wrP2Off0B (v : HostVal) : Statement (.wrP2Off0B v) := of_busWrite rfl rfl rfl rfl rfl

theorem wrP2Rcr (v : HostVal) : Statement (.wrP2Rcr v) := of_busWrite rfl rfl rfl rfl rfl

theorem wrP2Tcr (v : HostVal) : Statement (.wrP2Tcr v) := of_busWrite rfl rfl rfl rfl rfl

theorem wrP2Dcr (v : HostVal) : Statement (.wrP2Dcr v) := of_busWrite rfl rfl rfl rfl rfl

theorem wrP2Imr (v : HostVal) : Statement (.wrP2Imr v) := of_busWrite rfl rfl rfl rfl rfl

theorem rdP3Off01 (w : Width) : Statement (.rdP3Off01 w) := of_busRead rfl rfl rfl rfl rfl

theorem rdP3Off02 (w : Width) : Statement (.rdP3Off02 w) := of_busRead rfl rfl rfl rfl rfl

theorem rdP3Off03 (w : Width) : Statement (.rdP3Off03 w) := of_busRead rfl rfl rfl rfl rfl

theorem rdP3Off04 (w : Width) : Statement (.rdP3Off04 w) := of_busRead rfl rfl rfl rfl rfl

theorem rdP3Off05 (w : Width) : Statement (.rdP3Off05 w) := of_busRead rfl rfl rfl rfl rfl

theorem rdP3Off06 (w : Width) : Statement (.rdP3Off06 w) := of_busRead rfl rfl rfl rfl rfl

theorem rdP3Off07 (w : Width) : Statement (.rdP3Off07 w) := of_busRead rfl rfl rfl rfl rfl

theorem rdP3Off08 (w : Width) : Statement (.rdP3Off08 w) := of_busRead rfl rfl rfl rfl rfl

theorem rdP3Off09 (w : Width) : Statement (.rdP3Off09 w) := of_busRead rfl rfl rfl rfl rfl

theorem rdP3Off0A (w : Width) : Statement (.rdP3Off0A w) := of_busRead rfl rfl rfl rfl rfl

theorem rdP3Off0B (w : Width) : Statement (.rdP3Off0B w) := of_busRead rfl rfl rfl rfl rfl

theorem rdP3Off0C (w : Width) : Statement (.rdP3Off0C w) := of_busRead rfl rfl rfl rfl rfl

theorem rdP3Off0D (w : Width) : Statement (.rdP3Off0D w) := of_busRead rfl rfl rfl rfl rfl

theorem rdP3Off0E (w : Width) : Statement (.rdP3Off0E w) := of_busRead rfl rfl rfl rfl rfl

theorem rdP3Off0F (w : Width) : Statement (.rdP3Off0F w) := of_busRead rfl rfl rfl rfl rfl

theorem wrP3Off01 (v : HostVal) : Statement (.wrP3Off01 v) := of_busWrite rfl rfl rfl rfl rfl

theorem wrP3Off02 (v : HostVal) : Statement (.wrP3Off02 v) := of_busWrite rfl rfl rfl rfl rfl

theorem wrP3Off03 (v : HostVal) : Statement (.wrP3Off03 v) := of_busWrite rfl rfl rfl rfl rfl

theorem wrP3Off04 (v : HostVal) : Statement (.wrP3Off04 v) := of_busWrite rfl rfl rfl rfl rfl

theorem wrP3Off05 (v : HostVal) : Statement (.wrP3Off05 v) := of_busWrite rfl rfl rfl rfl rfl

theorem wrP3Off06 (v : HostVal) : Statement (.wrP3Off06 v) := of_busWrite rfl rfl rfl rfl rfl

theorem wrP3Off07 (v : HostVal) : Statement (.wrP3Off07 v) := of_busWrite rfl rfl rfl rfl rfl

theorem wrP3Off08 (v : HostVal) : Statement (.wrP3Off08 v) := of_busWrite rfl rfl rfl rfl rfl

theorem wrP3Off09 (v : HostVal) : Statement (.wrP3Off09 v) := of_busWrite rfl rfl rfl rfl rfl

theorem wrP3Off0A (v : HostVal) : Statement (.wrP3Off0A v) := of_busWrite rfl rfl rfl rfl rfl

theorem wrP3Off0B (v : HostVal) : Statement (.wrP3Off0B v) := of_busWrite rfl rfl rfl rfl rfl

theorem wrP3Off0C (v : HostVal) : Statement (.wrP3Off0C v) := of_busWrite rfl rfl rfl rfl rfl

theorem wrP3Off0D (v : HostVal) : Statement (.wrP3Off0D v) := of_busWrite rfl rfl rfl rfl rfl

theorem wrP3Off0E (v : HostVal) : Statement (.wrP3Off0E v) := of_busWrite rfl rfl rfl rfl rfl

theorem wrP3Off0F (v : HostVal) : Statement (.wrP3Off0F v) := of_busWrite rfl rfl rfl rfl rfl

theorem drd (w : Width) : Statement (.drd w) := fun _ _ => by
  cases w <;> exact (by decide : (0x80#8 &&& 0xFF#8 : Byte) = 0x80#8)

theorem dwr (v : HostVal) : Statement (.dwr v) := fun _ _ => by
  cases v <;> exact (by decide : (0xC0#8 &&& 0xFF#8 : Byte) = 0xC0#8)

theorem rx (frame : List Byte) (errs : Byte) : Statement (.rx frame errs) := fun _ _ => by
  exact (by decide : (0x90#8 &&& 0xFF#8 : Byte) = 0x90#8)

theorem txdone (outcome : Byte) : Statement (.txdone outcome) := fun _ _ => by
  exact (by decide : (0xA0#8 &&& 0xFF#8 : Byte) = 0xA0#8)

theorem hreset (content : List Byte) : Statement (.hreset content) := fun _ _ => by
  exact (by decide : (0xB0#8 &&& 0xFF#8 : Byte) = 0xB0#8)

theorem crStop (rest : BitVec 7) : Statement (.crStop rest) := by
  revert rest
  simp only [Statement, crValue, opcodeRow]
  decide

theorem crStart (high : BitVec 6) (stop : BitVec 1) : Statement (.crStart high stop) := by
  revert high stop
  simp only [Statement, crValue, opcodeRow]
  decide

theorem crXmit (high : BitVec 5) : Statement (.crXmit high) := by
  revert high
  simp only [Statement, crValue, opcodeRow]
  decide

theorem crRdmaRd (pgsel txpStart : BitVec 2) : Statement (.crRdmaRd pgsel txpStart) := by
  revert pgsel txpStart
  simp only [Statement, crValue, opcodeRow]
  decide

theorem crRdmaWr (pgsel txpStart : BitVec 2) : Statement (.crRdmaWr pgsel txpStart) := by
  revert pgsel txpStart
  simp only [Statement, crValue, opcodeRow]
  decide

theorem crRdmaSend (pgsel txpStart : BitVec 2) : Statement (.crRdmaSend pgsel txpStart) := by
  revert pgsel txpStart
  simp only [Statement, crValue, opcodeRow]
  decide

theorem crRdmaAbort (pgsel cmdLow txpStart : BitVec 2) : Statement (.crRdmaAbort pgsel cmdLow txpStart) := by
  revert pgsel cmdLow txpStart
  simp only [Statement, crValue, opcodeRow]
  decide

theorem crRdmaAbort0 (pgsel txpStart : BitVec 2) : Statement (.crRdmaAbort0 pgsel txpStart) := by
  revert pgsel txpStart
  simp only [Statement, crValue, opcodeRow]
  decide

theorem crPage (pgsel : BitVec 2) (rest : BitVec 6) : Statement (.crPage pgsel rest) := by
  revert pgsel rest
  simp only [Statement, crValue, opcodeRow]
  decide

end Sys2Proof.Laws.OpcodeRow
end

