-- ==== Sys2Proof/Tests/Slice0.lean ====
section
/-!
SUPPORT. Tests of the model on the spec's own examples and tables, the well-formedness smoke test, and a witness for the
hypotheses of every statement that has some. Each names the rule its expected result is from.
-/

namespace Sys2Proof.Tests

open Sys2Proof.Machine

/-! ## Well-formedness: an ill-formed term for each check -/

theorem test_wf_verdict_bit0 : (Instr.rx [] 0x01#8).wellFormed = false := by decide
theorem test_wf_verdict_bit4 : (Instr.rx [] 0x10#8).wellFormed = false := by decide
theorem test_wf_outcome_reserved_bit : (Instr.txdone 0x02#8).wellFormed = false := by decide
theorem test_wf_outcome_two_bits : (Instr.txdone 0x05#8).wellFormed = false := by decide
theorem test_wf_content_too_long (c : List Byte) (h : c.length = 32769) : (Instr.hreset c).wellFormed = false := by
  simp only [Instr.wellFormed, h, maxMemSize]
  decide
theorem test_wf_longest_content (c : List Byte) (h : c.length = 32768) : (Instr.hreset c).wellFormed = true := by
  simp only [Instr.wellFormed, h, maxMemSize]
  decide

/-! ## Decoding: every row of the register map, as the tables of R103 to R107 list them -/

/-- R103, page 0, read, offsets 0x00 to 0x0F. -/
theorem test_decode_read_page0 : (List.range 16).map (fun off => decode 0#2 (.regRead off 8)) =
    [.rdCr .byte, .rdP0Clda0 .byte, .rdP0Clda1 .byte, .rdP0Bnry .byte, .rdP0Tsr .byte, .rdP0Ncr .byte, .rdP0Fifo .byte,
      .rdP0Isr .byte, .rdP0Crda0 .byte, .rdP0Crda1 .byte, .rdP0Id0 .byte, .rdP0Id1 .byte, .rdP0Rsr .byte, .rdP0Cntr0 .byte,
      .rdP0Cntr1 .byte, .rdP0Cntr2 .byte].map Except.ok := rfl

/-- R104, page 0, write. -/
theorem test_decode_write_page0 (v : HostVal) : (List.range 16).map (fun off => (writeRow 0#2 off).map (· v)) =
    [.wrCr v, .wrP0Pstart v, .wrP0Pstop v, .wrP0Bnry v, .wrP0Tpsr v, .wrP0Tbcr0 v, .wrP0Tbcr1 v, .wrP0Isr v, .wrP0Rsar0 v,
      .wrP0Rsar1 v, .wrP0Rbcr0 v, .wrP0Rbcr1 v, .wrP0Rcr v, .wrP0Tcr v, .wrP0Dcr v, .wrP0Imr v].map some := rfl

/-- R105, page 1, read. -/
theorem test_decode_read_page1 : (List.range 16).map (fun off => decode 1#2 (.regRead off 16)) =
    [.rdCr .word, .rdP1Par0 .word, .rdP1Par1 .word, .rdP1Par2 .word, .rdP1Par3 .word, .rdP1Par4 .word, .rdP1Par5 .word,
      .rdP1Curr .word, .rdP1Mar0 .word, .rdP1Mar1 .word, .rdP1Mar2 .word, .rdP1Mar3 .word, .rdP1Mar4 .word, .rdP1Mar5 .word,
      .rdP1Mar6 .word, .rdP1Mar7 .word].map Except.ok := rfl

/-- R105, page 1, write. -/
theorem test_decode_write_page1 (v : HostVal) : (List.range 16).map (fun off => (writeRow 1#2 off).map (· v)) =
    [.wrCr v, .wrP1Par0 v, .wrP1Par1 v, .wrP1Par2 v, .wrP1Par3 v, .wrP1Par4 v, .wrP1Par5 v, .wrP1Curr v, .wrP1Mar0 v,
      .wrP1Mar1 v, .wrP1Mar2 v, .wrP1Mar3 v, .wrP1Mar4 v, .wrP1Mar5 v, .wrP1Mar6 v, .wrP1Mar7 v].map some := rfl

/-- R106, page 2, read. -/
theorem test_decode_read_page2 : (List.range 16).map (fun off => decode 2#2 (.regRead off 8)) =
    [.rdCr .byte, .rdP2Pstart .byte, .rdP2Pstop .byte, .rdP2Rnpp .byte, .rdP2Tpsr .byte, .rdP2Lnpp .byte, .rdP2Acu .byte,
      .rdP2Acl .byte, .rdP2Off08 .byte, .rdP2Off09 .byte, .rdP2Off0A .byte, .rdP2Off0B .byte, .rdP2Rcr .byte, .rdP2Tcr .byte,
      .rdP2Dcr .byte, .rdP2Imr .byte].map Except.ok := rfl

/-- R106, page 2, write. -/
theorem test_decode_write_page2 (v : HostVal) : (List.range 16).map (fun off => (writeRow 2#2 off).map (· v)) =
    [.wrCr v, .wrP2Pstart v, .wrP2Pstop v, .wrP2Rnpp v, .wrP2Tpsr v, .wrP2Lnpp v, .wrP2Acu v, .wrP2Acl v, .wrP2Off08 v,
      .wrP2Off09 v, .wrP2Off0A v, .wrP2Off0B v, .wrP2Rcr v, .wrP2Tcr v, .wrP2Dcr v, .wrP2Imr v].map some := rfl

/-- R107, page 3, read. -/
theorem test_decode_read_page3 : (List.range 16).map (fun off => decode 3#2 (.regRead off 8)) =
    [.rdCr .byte, .rdP3Off01 .byte, .rdP3Off02 .byte, .rdP3Off03 .byte, .rdP3Off04 .byte, .rdP3Off05 .byte, .rdP3Off06 .byte,
      .rdP3Off07 .byte, .rdP3Off08 .byte, .rdP3Off09 .byte, .rdP3Off0A .byte, .rdP3Off0B .byte, .rdP3Off0C .byte,
      .rdP3Off0D .byte, .rdP3Off0E .byte, .rdP3Off0F .byte].map Except.ok := rfl

/-- R107, page 3, write. -/
theorem test_decode_write_page3 (v : HostVal) : (List.range 16).map (fun off => (writeRow 3#2 off).map (· v)) =
    [.wrCr v, .wrP3Off01 v, .wrP3Off02 v, .wrP3Off03 v, .wrP3Off04 v, .wrP3Off05 v, .wrP3Off06 v, .wrP3Off07 v, .wrP3Off08 v,
      .wrP3Off09 v, .wrP3Off0A v, .wrP3Off0B v, .wrP3Off0C v, .wrP3Off0D v, .wrP3Off0E v, .wrP3Off0F v].map some := rfl

/-- R101: the five selectors of the other operations, as words of the opcode table. -/
theorem test_decode_ext : [0x80, 0xC0, 0x90, 0xA0, 0xB0].map (decodeTableWord 8) =
    [.drd .byte, .dwr (.byte 0x00#8), .rx [] 0x00#8, .txdone 0x01#8, .hreset []].map some := by decide

/-- R100, R117: a written value is the value of the access, `W 07 <- 40` and its 16-bit form. -/
theorem test_decode_written_value : decode 0#2 (.regWrite 0x07 8 0x40) = .ok (.wrP0Isr (.byte 0x40#8)) ∧
    decode 0#2 (.regWrite 0x03 16 0x1247) = .ok (.wrP0Bnry (.word 0x1247#16)) := ⟨rfl, rfl⟩

/-- R101, R108: 0x26 carries start, transmit, abort and page 0; 0x61 carries stop and page 1. -/
theorem test_cr_commands : crCommands 0x26#8 =
      [.crStart 0b001001#6 0#1, .crXmit 0b00100#5, .crRdmaAbort 0#2 0#2 0b11#2, .crPage 0#2 0b100110#6] ∧
    crCommands 0x61#8 = [.crStop 0b0110000#7, .crPage 1#2 0b100001#6] := by decide

/-- R109: the command codes, by the value of a CR write with only the command and `start` set. -/
theorem test_cr_command_codes : crRdmaRdValue 0#2 1#2 = 0x0A#8 ∧ crRdmaWrValue 0#2 1#2 = 0x12#8 ∧
    crRdmaSendValue 0#2 1#2 = 0x1A#8 ∧ crRdmaAbortValue 0#2 0#2 1#2 = 0x22#8 ∧ crRdmaAbort0Value 0#2 1#2 = 0x02#8 := by decide

/-! ## One step on a small state -/

/-- The state after the operation. -/
def after (i : Instr) (s : State) : Option State :=
  match exec i s with
  | .next t => some t
  | _ => none

/-- What the host reads. -/
def reads (i : Instr) (s : State) : Option HostVal := (after i s).bind (·.out.value)

/-- The events of the operation. -/
def events (i : Instr) (s : State) : Option (List Event) := (after i s).map (·.out.events)

/-- A running core, `CR = 0x22`, with the ring 0x46 to 0x4A of R238. -/
def live : State := { State.reset with
  cr := { stop := false, start := true, txPacket := false, rdmaCmd := 4#3, pgsel := 0#2 }
  pageStart := 0x46#8, pageStop := 0x4A#8, boundPtr := 0x46#8, currPage := 0x47#8, rcr := 0x12#8 }

/-- A core with a transmission pending (R273). -/
def sending : State := { live with cr := { live.cr with txPacket := true } }

/-- A core in a remote transfer of `n` bytes at 0x4000. -/
def moving (r : RdmaState) (cmd : BitVec 3) (n : Word) : State := { live with
  cr := { live.cr with rdmaCmd := cmd }, rdmaState := r, rdmaRemaining := n, remoteDma := 0x4000#16, remoteStart := 0x4000#16,
  remoteBytes := n, mem := Memory.ofBytes 0 [0xDE#8, 0xAD#8, 0xBE#8, 0xEF#8] }

/-- A frame to the broadcast address, `n` bytes after the address. -/
def broadcastFrame (n : Nat) : List Byte := List.replicate 6 0xFF#8 ++ List.replicate n 0xAA#8

/-- R130. -/
theorem test_read_widens : reads (.rdP0Isr .word) { live with isr := 0x40#8 } = some (.word 0x0040#16) := by decide
/-- R131. -/
theorem test_write_narrows : (after (.wrP0Bnry (.word 0x1247#16)) live).map (·.boundPtr) = some 0x47#8 := by decide
/-- R133: a write at the same offset goes elsewhere. -/
theorem test_clda0 : reads (.rdP0Clda0 .byte) { live with pageStart := 0x46#8 } = some (.byte 0x00#8) := by decide
/-- R140, R141: the cursor, low and high byte. -/
theorem test_crda : reads (.rdP0Crda0 .byte) { live with remoteDma := 0x4104#16 } = some (.byte 0x04#8) ∧
    reads (.rdP0Crda1 .byte) { live with remoteDma := 0x4104#16 } = some (.byte 0x41#8) := by decide
/-- R142, R143, with `ID0 = 0x50`, `ID1 = 0x70`. -/
theorem test_id : reads (.rdP0Id0 .byte) live = some (.byte 0x50#8) ∧ reads (.rdP0Id1 .byte) live = some (.byte 0x70#8) := by
  decide
/-- R152, R153. -/
theorem test_tbcr : (after (.wrP0Tbcr0 (.byte 0x3C#8)) { live with txBytes := 0x0100#16 }).map (·.txBytes) = some 0x013C#16 ∧
    (after (.wrP0Tbcr1 (.byte 0x00#8)) { live with txBytes := 0x013C#16 }).map (·.txBytes) = some 0x003C#16 := by decide
/-- R154. -/
theorem test_isr_w1c : (after (.wrP0Isr (.byte 0x40#8)) { live with isr := 0x41#8, imr := 0x40#8, irqLine := true }).map
    (fun t => (t.isr, t.irqLine, t.out.events)) = some (0x01#8, false, [.irq false]) := by decide
/-- R155, R156. -/
theorem test_rsar : (after (.wrP0Rsar1 (.byte 0x40#8)) { live with remoteStart := 0x1100#16 }).map (·.remoteStart) =
    some 0x4000#16 := by decide
/-- R157, R158. -/
theorem test_rbcr : (after (.wrP0Rbcr0 (.byte 0x04#8)) { live with remoteBytes := 0x0011#16 }).map (·.remoteBytes) =
    some 0x0004#16 := by decide
/-- R159 to R161. -/
theorem test_masks : (after (.wrP0Rcr (.byte 0xC4#8)) live).map (·.rcr) = some 0x04#8 ∧
    (after (.wrP0Tcr (.byte 0xFF#8)) live).map (·.tcr) = some 0x07#8 ∧
    (after (.wrP0Dcr (.byte 0xC9#8)) live).map (·.dcr) = some 0x49#8 := by decide
/-- R162: unmasking a set flag raises the line at once. -/
theorem test_imr_raises : events (.wrP0Imr (.byte 0xFF#8)) { live with isr := 0x80#8 } = some [.irq true] := by decide
/-- R163, R164. -/
theorem test_par : reads (.rdP1Par1 .byte) live = some (.byte 0x11#8) ∧
    (after (.wrP1Par5 (.byte 0x66#8)) live).map (·.physaddr) = some #v[0x00#8, 0x11#8, 0x22#8, 0x33#8, 0x44#8, 0x66#8] := by
  decide
/-- R168: hash bit 63. -/
theorem test_mar : (after (.wrP1Mar7 (.byte 0x80#8)) live).map (fun t => hashBit t.mchash 63#6) = some true ∧
    hashBit live.mchash 63#6 = false := by decide
/-- R176, R178, with `address_cnt = 0xBEEF`. -/
theorem test_acu_acl : reads (.rdP2Acu .byte) { live with addressCnt := 0xBEEF#16 } = some (.byte 0xBE#8) ∧
    reads (.rdP2Acl .byte) { live with addressCnt := 0xBEEF#16 } = some (.byte 0xEF#8) := by decide
/-- R185, R187. -/
theorem test_ignored : (after (.wrP2Rcr (.byte 0xFF#8)) live).map (·.rcr) = some 0x12#8 ∧
    (after (.wrP3Off0F (.byte 0xFF#8)) live).map (·.imr) = some 0x00#8 := by decide
/-- R180: a free value is drawn, and the next read draws another. -/
theorem test_draw_is_fresh : (after (.rdP2Off09 .byte) live).map (·.draws) = some 1 := by decide
/-- R200, R201: `WR CR, 0x22` after the reset. -/
theorem test_cr_start : (after (.wrCr (.byte 0x22#8)) State.reset).map (fun t => (crByte t.cr, t.out.events)) =
    some (0x22#8, []) := by decide
/-- R202, R209: a stop, with a transmission and a transfer pending and every flag enabled. -/
theorem test_cr_stop : (after (.wrCr (.byte 0x21#8)) { sending with imr := 0xFF#8, rdmaState := .reading, rdmaRemaining := 7#16 }).map
    (fun t => (crByte t.cr, t.isr, t.rdmaState, t.rdmaRemaining, t.out.events)) =
    some (0x21#8, 0x80#8, .idle, 0#16, [.irq true]) := by decide
/-- R204. -/
theorem test_cr_page : (after (.wrCr (.byte 0xE2#8)) State.reset).map (fun t => (t.cr.pgsel, running t.cr)) = some (3#2, true) := by
  decide
/-- R207: a command written with `stop` starts nothing; the next write with the same class does. -/
theorem test_cr_stopped_command : ((after (.wrCr (.byte 0x09#8)) (moving .idle 4#3 4#16)).bind (after (.wrCr (.byte 0x0A#8)))).map
    (fun t => (t.rdmaState, t.rdmaRemaining)) = some (.reading, 4#16) := by decide
/-- R270, R273: the trigger. -/
theorem test_transmit : (after (.crXmit 0b00100#5) { live with
    txPageStart := 0x40#8, txBytes := 5#16, mem := Memory.ofBytes 0 [0x11#8, 0x22#8, 0x33#8, 0x44#8, 0x55#8] }).map
    (fun t => (crByte t.cr, t.tsr, t.out.events)) = some (0x26#8, 0x00#8, [.txFrame [0x11#8, 0x22#8, 0x33#8, 0x44#8, 0x55#8]]) := by
  decide
/-- R271: bytes outside the window are `SINK_BYTE`, and the fetch does not wrap at `page_stop`. -/
theorem test_transmit_sink : txFetch { live with txPageStart := 0x60#8, txBytes := 2#16 } = [0xFF#8, 0xFF#8] := by decide
/-- R274: a trigger while one is pending. -/
theorem test_transmit_pending : (after (.crXmit 0b00100#5) sending).map (fun t => (crByte t.cr, t.out.events)) =
    some (0x26#8, []) := by decide
/-- R275. -/
theorem test_txdone : (after (.txdone 0x01#8) { sending with imr := 0x02#8 }).map
    (fun t => (t.tsr, t.cr.txPacket, t.isr, t.out.events)) = some (0x01#8, false, 0x02#8, [.irq true]) := by decide
/-- R276: a simulated failure, and the same outcome outside loopback. -/
theorem test_txdone_loopback : (after (.txdone 0x10#8) { sending with tcr := 0x02#8 }).map (fun t => (t.tsr, t.isr)) =
      some (0x10#8, 0x08#8) ∧
    after (.txdone 0x10#8) sending = none := by decide
/-- R301: the class of the running transfer repeated. -/
theorem test_repeat : (after (.wrCr (.byte 0x4A#8)) (moving .reading 1#3 3#16)).map (fun t => (t.rdmaState, t.rdmaRemaining, t.cr.pgsel)) =
    some (.reading, 3#16, 1#2) := by decide
/-- R302. -/
theorem test_start_write : (after (.crRdmaWr 0#2 1#2) { moving .idle 4#3 4#16 with remoteDma := 0#16 }).map
    (fun t => (t.rdmaState, t.rdmaRemaining, t.remoteDma)) = some (.writing, 4#16, 0x4000#16) := by decide
/-- R303. -/
theorem test_zero_length : (after (.crRdmaRd 0#2 1#2) { moving .idle 4#3 0#16 with imr := 0x40#8 }).map
    (fun t => (t.rdmaState, t.isr, t.out.events)) = some (.idle, 0x40#8, [.irq true]) := by decide
/-- R304. -/
theorem test_abort : (after (.crRdmaAbort 0#2 0#2 1#2) { moving .writing 2#3 2#16 with remoteDma := 0x4002#16 }).map
    (fun t => (t.rdmaState, t.rdmaRemaining, t.remoteDma, t.isr)) = some (.aborted, 0#16, 0x4000#16, 0x00#8) := by decide
/-- R305, `inert` and `refuse`. -/
theorem test_send : (after (.crRdmaSend 0#2 1#2) (moving .reading 1#3 4#16)).map (·.rdmaState) = some .aborted ∧
    after (.crRdmaSend 0#2 1#2) { moving .reading 1#3 4#16 with cfg := { Config.initial with sendMode := .refuse } } = none := by decide
/-- R307, byte mode: the first and the last of the four reads. -/
theorem test_drd : (after (.drd .byte) (moving .reading 1#3 4#16)).map (fun t => (t.out.value, t.remoteDma, t.rdmaRemaining, t.isr)) =
      some (some (.byte 0xDE#8), 0x4001#16, 3#16, 0x00#8) ∧
    (after (.drd .byte) { moving .reading 1#3 1#16 with remoteDma := 0x4003#16 }).map (fun t => (t.out.value, t.rdmaState, t.isr)) =
      some (some (.byte 0xEF#8), .idle, 0x40#8) := by decide
/-- R309: word mode, a 16-bit access, an 8-bit access, and one byte left. -/
theorem test_drd_word : reads (.drd .word) { moving .reading 1#3 4#16 with dcr := 0x01#8 } = some (.word 0xADDE#16) ∧
    (after (.drd .byte) { moving .reading 1#3 4#16 with dcr := 0x01#8 }).map (fun t => (t.out.value, t.rdmaRemaining)) =
      some (some (.byte 0xDE#8), 2#16) ∧
    reads (.drd .word) { moving .reading 1#3 1#16 with dcr := 0x01#8 } = some (.word 0x00DE#16) := by decide
/-- R308: the third word of five bytes writes one byte. -/
theorem test_dwr_last : (after (.dwr (.word 0x6655#16)) { moving .writing 2#3 1#16 with dcr := 0x01#8, remoteDma := 0x4004#16 }).map
    (fun t => (Memory.read t.mem 4, Memory.read t.mem 5, t.remoteDma, t.isr)) = some (0x55#8, 0x00#8, 0x4005#16, 0x40#8) := by decide
/-- R309: an 8-bit write in word mode writes 0x00 after its byte. -/
theorem test_dwr_zero_extends : (after (.dwr (.byte 0x77#8)) { moving .writing 2#3 2#16 with dcr := 0x01#8 }).map
    (fun t => (Memory.read t.mem 0, Memory.read t.mem 1, Memory.read t.mem 2)) = some (0x77#8, 0x00#8, 0xBE#8) := by decide
/-- R311. -/
theorem test_port_idle : after (.dwr (.byte 0x55#8)) live = some live ∧ (after (.drd .byte) live).map (·.draws) = some 1 := by decide
/-- R71, with the window 0x4000 to 0x6000 and `MEM_WRAP = 0x8000`: the edges, and an alias. -/
theorem test_chip_addr : [0x3FFF#16, 0x4000#16, 0x5FFF#16, 0x6000#16, 0xC000#16].map (chipAddr Config.initial) =
    [none, some 0, some 0x1FFF, none, some 0] := by decide
/-- R234, the table. -/
theorem test_hash_broadcast : crcHash [0xFF#8, 0xFF#8, 0xFF#8, 0xFF#8, 0xFF#8, 0xFF#8] = 63#6 := by decide +kernel
/-- R234, the table. -/
theorem test_hash_station : crcHash [0x00#8, 0x11#8, 0x22#8, 0x33#8, 0x44#8, 0x55#8] = 5#6 := by decide +kernel
/-- R234, the table. -/
theorem test_hash_group : crcHash [0x01#8, 0x80#8, 0xC2#8, 0x00#8, 0x00#8, 0x00#8] = 25#6 := by decide +kernel
/-- R233: with broadcast only, a frame to another station and a broadcast frame. -/
theorem test_filter : accepts { live with rcr := 0x04#8 } [0x00#8, 0x11#8, 0x22#8, 0x33#8, 0x44#8, 0x66#8] = false ∧
    accepts { live with rcr := 0x04#8 } (List.replicate 6 0xFF#8) = true := by decide
/-- R238: `Avail() = 3`, and the pages of 60, 300 and 600 bytes. -/
theorem test_space : ringAvail live = 3 ∧ [60, 300, 600].map pagesFor = [1, 2, 3] := by decide
/-- R239. -/
theorem test_overflow : (after (.rx (broadcastFrame 54) 0x00#8) { live with pageStop := 0x47#8, isr := 0x01#8, imr := 0x11#8, irqLine := true }).map
    (fun t => (t.tallycnt2, t.isr, t.out.events)) = some (1#8, 0x11#8, []) := by decide
/-- R240, R242: the wrap. -/
theorem test_wrap : nextPage { live with currPage := 0x49#8 } 2 = 0x47#8 ∧
    [0, 255, 256, 303].map (ringAddr { live with currPage := 0x49#8 }) = [0x4900#16, 0x49FF#16, 0x4600#16, 0x462F#16] := by decide
/-- R241: the header of a 60-byte good frame at page 0x47. -/
theorem test_header : (rxBytes live (broadcastFrame 54) 0x00#8).take 5 = [0x01#8, 0x48#8, 0x40#8, 0x00#8, 0xFF#8] := by decide
/-- R241, the other order. -/
theorem test_header_next_first : rxHeader .nextFirst 0x01#8 0x48#8 0x0140#16 = [0x48#8, 0x01#8, 0x40#8, 0x01#8] := by decide
/-- R242, R243, R244: a runt is stored, with `runts_ok`, at 0x4700. -/
theorem test_store : (after (.rx (broadcastFrame 1) 0x00#8) { live with imr := 0x01#8 }).map
    (fun t => (t.currPage, t.rsr, t.isr, t.out.events, [0x700, 0x701, 0x702, 0x703, 0x704, 0x70A, 0x70B].map (Memory.read t.mem))) =
    some (0x48#8, 0x01#8, 0x01#8, [.irq true], [0x01#8, 0x48#8, 0x0B#8, 0x00#8, 0xFF#8, 0xAA#8, 0x00#8]) := by decide
/-- R237, R244: errors, refused and stored. -/
theorem test_errors : (after (.rx (broadcastFrame 1) 0x02#8) { live with imr := 0x04#8 }).map (fun t => (t.rsr, t.isr, t.currPage, t.out.events)) =
      some (0x02#8, 0x04#8, 0x47#8, [.irq true]) ∧
    (after (.rx (broadcastFrame 1) 0x02#8) { live with rcr := 0x13#8 }).map (fun t => (t.rsr, t.isr, t.currPage)) =
      some (0x02#8, 0x04#8, 0x48#8) := by decide
/-- R231, R235, R236: not running, monitor mode, a refused runt. -/
theorem test_silent : after (.rx (broadcastFrame 54) 0x00#8) { live with cr := { live.cr with stop := true } } =
      some { live with cr := { live.cr with stop := true } } ∧
    after (.rx (broadcastFrame 54) 0x00#8) { live with rcr := 0x30#8 } = some { live with rcr := 0x30#8 } ∧
    after (.rx (broadcastFrame 14) 0x00#8) { live with rcr := 0x10#8 } = some { live with rcr := 0x10#8 } := by decide
/-- R380: a running core with the line active. -/
theorem test_hard_reset : (after (.hreset [0x12#8]) { sending with isr := 0x01#8, imr := 0x01#8, irqLine := true }).map
    (fun t => (crByte t.cr, t.isr, t.imr, t.out.events, Memory.read t.mem 0)) =
    some (0x00#8, 0x00#8, 0x00#8, [.irq false], 0x12#8) := by decide
/-- R381, `POWERUP_STOP`. -/
theorem test_powerup_stop : (State.attach { Config.initial with powerupStop := true }).cr.stop = true ∧
    (State.attach { Config.initial with powerupStop := true }).isr = 0x80#8 := by decide
/-- R356, its two examples, and the parameters of configuration A. -/
theorem test_construct : State.construct { Config.initial.toParams with memSize := 0 } = none ∧
    State.construct { Config.initial.toParams with memSize := 32768, memStart := 0x8001#16 } = none ∧
    State.construct Config.initial.toParams = some State.reset := by decide
/-- R115, both layouts. -/
theorem test_macrom : (macromImage Config.initial).toList.take 7 = [0x00#8, 0x11#8, 0x22#8, 0x33#8, 0x44#8, 0x55#8, 0x57#8] ∧
    (macromImage { Config.initial with evenMac := true }).toList.drop 8 = [0x44#8, 0x44#8, 0x55#8, 0x55#8] ++ List.replicate 20 0x57#8 := by
  decide
/-- R102, R12: a step decodes with the page of that moment, and consumes the request. -/
theorem test_step : (match step { live with cr := { live.cr with pgsel := 1#2 }, pending := [.regRead 0x07 8] } with
    | .next t => some (t.out.value, t.pending)
    | _ => none) = some (some (.byte 0x47#8), []) := by decide

/-! ## Witnesses: the hypotheses of every statement that has some, met together -/

theorem witness_DecodeOfEncodeIsTheOperation :
    ((Instr.rx [] 0x0E#8).wellFormed = true ∧ rowPage (Instr.rx [] 0x0E#8) = none) ∧
    ((Instr.rdP1Curr .word).wellFormed = true ∧ rowPage (Instr.rdP1Curr .word) = some 1#2) ∧
    (Instr.crStop 0x7F#7).wellFormed = true ∧ crValue (Instr.crStop 0x7F#7) = some 0xFF#8 := by decide
theorem witness_DecodedOperationFitsItsRow : decode 3#2 (.regWrite 0x0F 16 0xFFFF) = .ok (.wrP3Off0F (.word 0xFFFF#16)) := rfl
theorem witness_SelectorMatchesOneRow :
    (crValue (Instr.rdCr .byte) = none ∧ 0x30#8 &&& (opcodeRow (Instr.rdCr .byte)).2 = (opcodeRow (Instr.rdCr .byte)).1) ∧
    0x30#8 &&& (opcodeRow (Instr.rdCr .word)).2 = (opcodeRow (Instr.rdCr .word)).1 ∧ (0x7F#8).toNat < 0x80 := by decide
theorem witness_SelectorOfTheRow : crValue (Instr.wrP1Curr (.byte 0#8)) = none ∧ rowPage (Instr.wrP1Curr (.byte 0#8)) = some 1#2 ∧
    selector 1#2 (encode (.wrP1Curr (.byte 0#8))) = 0x57#8 := by decide
theorem witness_CommandRegisterSubDecode : crValue (Instr.crPage 3#2 0x3F#6) = some 0xFF#8 := by decide
theorem witness_MalformedRequestsAreRefused : 0x0F < 0x10 ∧ (0x0F ≤ 0x0F ∧ 7 ≠ 8 ∧ 7 ≠ 16) ∧ 2 ^ 8 ≤ 256 ∧ 2 ^ 16 ≤ 65536 ∧
    0x01#8 &&& 0xF1#8 ≠ 0#8 ∧ 0x00#8 ∉ [0x01#8, 0x04#8, 0x08#8, 0x10#8, 0x20#8, 0x40#8, 0x80#8] ∧
    32768 < (List.replicate 32769 0x00#8).length :=
  ⟨by decide, by decide, by decide, by decide, by decide, by decide, by rw [List.length_replicate]; decide⟩
theorem witness_StepRunsTheDecodedOperation :
    decode State.reset.cr.pgsel (.regRead 0x00 8) = .ok (.rdCr .byte) ∧
    { State.reset with pending := [.regRead 0x00 8] }.pending = .regRead 0x00 8 :: [] ∧
    decode State.reset.cr.pgsel (.regRead 0x10 8) = .error .badOffset ∧ State.reset.pending = [] := ⟨rfl, rfl, rfl, rfl⟩
theorem witness_UndefinedPositionsReadAFreeValue : Instr.rdP2Off08 ∈ [Instr.rdP2Off08, Instr.rdP3Off0F] ∧
    Instr.rdP3Off0F ∈ [Instr.rdP2Off08, Instr.rdP3Off0F] := ⟨.head _, .tail _ (.head _)⟩
theorem witness_RegisterReadsChangeNothing : encode (.rdP2Off0B .word) = .regRead 0x0B 16 ∧ encode (.rdCr .byte) = .regRead 0 8 :=
  ⟨rfl, rfl⟩
theorem witness_IsrWriteClearsTheNamedFlags : live.lineSettled ∧ { live with isr := 0x41#8, imr := 0x40#8, irqLine := true }.lineSettled := by
  decide
theorem witness_IgnoredWritesChangeNothing : live.lineSettled ∧ Instr.wrP3Off0F ∈ [Instr.wrP2Pstart, Instr.wrP3Off0F] :=
  ⟨by decide, .tail _ (.head _)⟩
theorem witness_WriteThenReadReturnsTheDefinedBits :
    (Instr.wrP0Rcr, Instr.rdP2Rcr, 0x3F#8) ∈ [(Instr.wrP0Bnry, Instr.rdP0Bnry, 0xFF#8), (Instr.wrP0Rcr, Instr.rdP2Rcr, 0x3F#8)] :=
  .tail _ (.head _)
theorem witness_CommandRegisterWriteStoresEveryField : writesCr (.wrCr (.word 0xFF22#16)) 0x22#8 ∧ crPerformed 0x22#8 live ∧
    writesCr (.crPage 3#2 0x22#6) 0xE2#8 ∧ crPerformed (1#6 ++ 1#1 ++ 0#1) live ∧ crPerformed (3#2 ++ 0x18#6) live :=
  ⟨.inl ⟨_, rfl, by decide⟩, by decide, .inr rfl, by decide, by decide⟩
theorem witness_CommandRegisterWriteFrame : ∃ t, writesCr (.crStart 0x08#6 0#1) 0x22#8 ∧ exec (.crStart 0x08#6 0#1) live = .next t :=
  ⟨_, .inr rfl, rfl⟩
theorem witness_StopPerformsTheSoftReset : Instr.crStop 0x10#7 = .crStop 0x10#7 ∧ 0x21#8 = 0x10#7 ++ 1#1 ∧ (0x21#8).getLsbD 0 = true := by
  decide
theorem witness_TransmitTriggerHandsOverTheFrame : 0x26#8 = 0b00100#5 ++ 0b110#3 ∧ 0x26#8 &&& 0x07#8 = 0x06#8 ∧
    live.cr.txPacket = false ∧ crPerformed 0x26#8 live := by decide
theorem witness_RefusedTriggerDoesNothing : ∃ t u, low8 (.byte 0x26#8) = 0x26#8 ∧ low8 (.word 0xFF22#16) = 0x26#8 &&& 0xFB#8 ∧ exec (.wrCr (.byte 0x26#8)) sending = .next t ∧ sending.cr.txPacket = true ∧
    crByte sending.cr = 0x26#8 ∧ sending.lineSettled ∧ exec (.wrCr (.byte 0x24#8)) live = .next u ∧ (0x24#8).getLsbD 1 = false ∧
    live.cr.txPacket = false := ⟨_, _, rfl, by decide, rfl, rfl, by decide, by decide, rfl, rfl, rfl⟩
theorem witness_RemoteDmaCommandStartsATransfer : crRdmaRdValue 0#2 1#2 &&& 0x39#8 = 0x08#8 ∧ live.cr.rdmaCmd ≠ 1#3 ∧
    crRdmaWrValue 3#2 3#2 &&& 0x39#8 = 0x10#8 ∧ ¬ (moving .idle 2#3 4#16).transferring ∧ (moving .idle 2#3 4#16).remoteBytes ≠ 0#16 ∧
    live.remoteBytes = 0#16 := by decide
theorem witness_RepeatedCommandKeepsTheTransfer : writesCr (.wrCr (.byte 0x4A#8)) 0x4A#8 ∧ 0x4A#8 &&& 0x39#8 = 0x08#8 ∧
    (moving .reading 1#3 3#16).cr.rdmaCmd = 1#3 ∧ (moving .reading 1#3 3#16).transferring :=
  ⟨.inl ⟨_, rfl, rfl⟩, by decide, by decide, by decide⟩
theorem witness_AbortDiscardsTheTransfer : crRdmaAbortValue 0#2 0#2 1#2 &&& 0x21#8 = 0x20#8 ∧ crRdmaAbort0Value 0#2 1#2 &&& 0x39#8 = 0#8 ∧
    (moving .writing 2#3 2#16).transferring ∧ decodeRdma live.cr.rdmaCmd = .abort ∧ ¬ live.transferring := by decide
theorem witness_SendActsAsItsModeSays : crRdmaSendValue 0#2 1#2 &&& 0x39#8 = 0x18#8 ∧ live.cfg.sendMode = .inert ∧ live.cr.rdmaCmd ≠ 3#3 ∧
    { Config.initial with sendMode := .refuse }.sendMode = .refuse ∧ (moving .aborted 3#3 0#16).cr.rdmaCmd = 3#3 ∧
    ¬ (moving .aborted 3#3 0#16).transferring := by decide
theorem witness_DataReadMovesTheCursor : (moving .reading 1#3 1#16).rdmaState = .reading ∧ (moving .reading 1#3 1#16).rdmaRemaining ≠ 0#16 := by
  decide
theorem witness_DataWriteMovesTheCursor : (moving .writing 2#3 1#16).rdmaState = .writing ∧ (moving .writing 2#3 1#16).rdmaRemaining ≠ 0#16 := by
  decide
theorem witness_DataWriteStoresOnlyItsBytes : ∃ t, exec (.dwr (.byte 0x11#8)) (moving .writing 2#3 2#16) = .next t ∧
    (moving .writing 2#3 2#16).rdmaState = .writing ∧ (moving .writing 2#3 2#16).memFormed ∧ 0 < unitCount (moving .writing 2#3 2#16) ∧
    chipAddr (moving .writing 2#3 2#16).cfg 0x4000#16 = some 0 ∧ unitCount (moving .writing 2#3 2#16) = 1 :=
  ⟨_, rfl, rfl, by decide, by decide, by decide, by decide⟩
theorem witness_DataPortOutsideATransferMovesNothing : live.rdmaState ≠ .writing ∧ live.rdmaState ≠ .reading ∧
    (moving .writing 2#3 1#16).rdmaState ≠ .reading := by decide
theorem witness_WriteTransferMovesExactlyItsBytes : (moving .writing 2#3 2#16).rdmaState = .writing ∧
    (moving .writing 2#3 2#16).dcr.getLsbD 0 = false ∧ (2 - 1) * 1 < (moving .writing 2#3 2#16).rdmaRemaining.toNat ∧
    { moving .writing 2#3 3#16 with dcr := 0x01#8 }.dcr.getLsbD 0 = true ∧
    (2 - 1) * 2 < { moving .writing 2#3 3#16 with dcr := 0x01#8 }.rdmaRemaining.toNat ∧
    { moving .writing 2#3 3#16 with dcr := 0x01#8 }.rdmaState = .writing := by decide
theorem witness_ReadTransferMovesExactlyItsBytes : { moving .reading 1#3 3#16 with dcr := 0x01#8 }.dcr.getLsbD 0 = true ∧ 0 < 2 ∧
    (2 - 1) * 2 < { moving .reading 1#3 3#16 with dcr := 0x01#8 }.rdmaRemaining.toNat ∧
    { moving .reading 1#3 3#16 with dcr := 0x01#8 }.rdmaState = .reading := by decide
theorem witness_FramesAreDroppedWhileNotRunning : ∃ t, verdictOk 0x0E#8 = true ∧ State.reset.cr.start = false ∧
    writesCr (.wrCr (.byte 0x23#8)) 0x23#8 ∧ exec (.wrCr (.byte 0x23#8)) live = .next t ∧
    ¬ ((0x23#8).getLsbD 1 = true ∧ (0x23#8).getLsbD 0 = false) ∧ State.reset.cfg.powerupStop = false :=
  ⟨_, rfl, rfl, .inl ⟨_, rfl, rfl⟩, rfl, by decide, rfl⟩
theorem witness_FilterDropsAndAccepts :
    ({ live with rcr := 0x04#8 }.rcr.getLsbD 4 = false ∧ (List.replicate 5 0xFF#8).length < 6) ∧
    ((broadcastFrame 0).take 6 ≠ live.physaddr.toList ∧ { live with rcr := 0x02#8 }.rcr.getLsbD 2 = false) ∧
    { live with rcr := 0x30#8 }.rcr.getLsbD 5 = true ∧ ((broadcastFrame 53).length < live.cfg.runtMin ∧ live.cfg.runtMin = 60) ∧
    ({ live with rcr := 0x04#8 }.rcr.getLsbD 2 = true ∧ 6 ≤ (broadcastFrame 0).length ∧
      (broadcastFrame 0).take 6 = [0xFF#8, 0xFF#8, 0xFF#8, 0xFF#8, 0xFF#8, 0xFF#8]) ∧
    live.rcr.getLsbD 4 = true ∧ live.cr.start = true ∧ live.cr.stop = false ∧ live.rcr.getLsbD 5 = false ∧ live.rcr.getLsbD 1 = true := by
  decide
theorem witness_FilterByTheHash : { live with rcr := 0x08#8, mchash := #v[0#8, 0#8, 0#8, 0#8, 0#8, 0#8, 0#8, 0x80#8] }.rcr.getLsbD 3 = true ∧
    hashBit #v[0#8, 0#8, 0#8, 0#8, 0#8, 0#8, 0#8, 0x80#8] (mcHash live.cfg.mcHash ((broadcastFrame 0).take 6)) = true := by
  decide +kernel
theorem witness_ErrorFramesAreRefused : verdictOk 0x02#8 = true ∧ rxSilent live (broadcastFrame 0) = false ∧ 0x02#8 ≠ 0x00#8 ∧
    live.rcr.getLsbD 0 = false ∧ 0x10#8 &&& 0xF1#8 ≠ 0x00#8 := by decide
theorem witness_OverflowCountsAndDropsTheFrame : rxSilent { live with pageStop := 0x47#8 } (broadcastFrame 0) = false ∧
    ringAvail { live with pageStop := 0x47#8 } ≤ ((broadcastFrame 0).length + 4 + 255) / 256 ∧
    rxSilent { live with rcr := 0x13#8, pageStop := 0#8 } (broadcastFrame 0) = false ∧ { live with rcr := 0x13#8 }.rcr.getLsbD 0 = true ∧
    ringAvail { live with rcr := 0x13#8, pageStop := 0#8 } = 0 := by decide
theorem witness_RingSpaceIsTheDistanceToTheBoundary : live.ringFormed ∧ { live with currPage := 0x46#8 }.ringFormed ∧
    { live with boundPtr := 0x49#8 }.ringFormed ∧ State.reset.pageStop.toNat ≤ State.reset.pageStart.toNat ∧
    storesFrame (broadcastFrame 0) 0x00#8 live := by decide
theorem witness_StoredFrameAdvancesTheRing : verdictOk 0x00#8 = true ∧ storesFrame (broadcastFrame 0) 0x00#8 live ∧
    storesFrame (broadcastFrame 0) 0x0E#8 { live with rcr := 0x13#8 } := by decide
theorem witness_StoredFrameStandsInTheRing : ∃ t, exec (.rx (broadcastFrame 0) 0x00#8) live = .next t ∧
    storesFrame (broadcastFrame 0) 0x00#8 live ∧ live.memFormed ∧ chipAddr live.cfg (ringAddr live 9) = some 0x709 ∧
    (broadcastFrame 0).length + 4 = 10 ∧ chipAddr live.cfg (ringAddr live 0) ≠ some 0x70A :=
  ⟨_, rfl, by decide, by decide, by decide, by decide, by decide⟩
theorem witness_RingAddressesStayInTheRing : live.ringFormed ∧ storesFrame (broadcastFrame 0) 0x00#8 live ∧ 9 < (broadcastFrame 0).length + 4 := by
  decide
theorem witness_EngineAdvancesOnlyTheCurrentPage : ∃ t u, exec (.rx (broadcastFrame 0) 0x00#8) live = .next t ∧
    storesFrame (broadcastFrame 0) 0x00#8 live ∧ exec (.rx [] 0x00#8) State.reset = .next u ∧ ¬ storesFrame [] 0x00#8 State.reset :=
  ⟨_, _, rfl, by decide, rfl, by decide⟩
theorem witness_DeliveryRaisesTheLineOnce : ∃ t, live.lineSettled ∧ exec (.rx (broadcastFrame 0) 0x02#8) live = .next t :=
  ⟨_, by decide, rfl⟩
theorem witness_RingNeverFillsUp : ∃ t u, live.ringFormed ∧ exec (.rx (broadcastFrame 0) 0x00#8) live = .next t ∧
    storesFrame (broadcastFrame 0) 0x00#8 live ∧ { live with boundPtr := 0x48#8 }.ringFormed ∧
    exec (.rx (broadcastFrame 0) 0x00#8) { live with boundPtr := 0x48#8 } = .next u ∧
    rxSilent { live with boundPtr := 0x48#8 } (broadcastFrame 0) = false ∧
    ¬ storesFrame (broadcastFrame 0) 0x00#8 { live with boundPtr := 0x48#8 } :=
  ⟨_, _, by decide, rfl, by decide, by decide, rfl, by decide, by decide⟩
theorem witness_RingKeptByEveryOtherOperation : ∃ t, live.ringFormed ∧ exec (.wrP0Tpsr (.byte 0x50#8)) live = .next t ∧
    (∀ v, Instr.wrP0Tpsr (.byte 0x50#8) ≠ .wrP0Pstart v ∧ Instr.wrP0Tpsr (.byte 0x50#8) ≠ .wrP0Pstop v ∧
      Instr.wrP0Tpsr (.byte 0x50#8) ≠ .wrP0Bnry v ∧ Instr.wrP0Tpsr (.byte 0x50#8) ≠ .wrP1Curr v) ∧
    ∀ content, Instr.wrP0Tpsr (.byte 0x50#8) ≠ .hreset content :=
  ⟨_, by decide, rfl, fun _ => ⟨nofun, nofun, nofun, nofun⟩, fun _ => nofun⟩
theorem witness_FramesAdvanceTheRingByTheirPages : live.ringFormed ∧ storesFrames [(broadcastFrame 0, 0x00#8), (broadcastFrame 0, 0x00#8)] live := by
  refine ⟨by decide, by decide, by decide, ?_⟩
  intro t h
  cases h
  exact ⟨by decide, by decide, fun _ _ => trivial⟩
theorem witness_CompletionReportsTheOutcome : sending.cr.txPacket = true ∧ { sending with tcr := 0x02#8 }.tcr.extractLsb' 1 2 ≠ 0#2 ∧
    0x80#8 ∈ [0x04#8, 0x08#8, 0x10#8, 0x20#8, 0x40#8, 0x80#8] ∧ live.cr.txPacket = false := by decide
theorem witness_DisallowedOutcomesAreRefused : sending.cr.txPacket = true ∧ 0x04#8 ≠ 0x01#8 ∧ sending.tcr.extractLsb' 1 2 = 0#2 ∧
    0x02#8 ∉ [0x04#8, 0x08#8, 0x10#8, 0x20#8, 0x40#8, 0x80#8] := by decide
theorem witness_HardResetZeroesTheRegisters : 0 < live.cfg.memSize ∧ 8191 < live.cfg.memSize := by decide
theorem witness_AttachedCoreMeetsTheInvariants : Config.initial.evenMac = false ∧ { Config.initial with evenMac := true }.evenMac = true := by
  decide
theorem witness_InvalidConfigurationsHaveNoInstance : Config.initial.toParams.memSize = 8192 ∧
    { Config.initial.toParams with memSize := 0 }.memSize ≠ 8192 ∧ { Config.initial.toParams with memSize := 0 }.memSize ≠ 32768 := by decide
theorem witness_StepKeepsTheInvariants : ∃ t, step { live with pending := [.txComplete 0x01#8] } = .next t ∧ live.memFormed ∧
    live.rdmaFormed ∧ live.txFormed ∧ live.reservedClear := ⟨_, rfl, by decide, by decide, by decide, by decide⟩
theorem witness_EveryOperationSettlesTheLine : ∃ t, live.lineSettled ∧ exec (.wrP0Imr (.byte 0xFF#8)) live = .next t := ⟨_, by decide, rfl⟩
theorem witness_EveryOperationCompletes : (Instr.txdone 0x80#8).wellFormed = true ∧ (Instr.rx [] 0x0E#8).wellFormed = true := by decide
theorem witness_OnlyCrWritesChangeThePage : ∃ t, exec (.crPage 2#2 0x22#6) live = .next t ∧ t.cr.pgsel ≠ live.cr.pgsel := ⟨_, rfl, by decide⟩
theorem witness_FlagsAreSetOneAtATime : ∃ t, exec (.wrP0Isr (.byte 0x81#8)) { live with isr := 0xC1#8 } = .next t ∧
    { live with isr := 0xC1#8 }.isr.getLsbD 7 = true ∧ t.isr.getLsbD 7 = false := ⟨_, rfl, by decide, by decide⟩
theorem witness_OnlyATriggerSendsAFrame : ∃ t u, exec (.crXmit 4#5) live = .next t ∧ sentFrames t.out = [[]] ∧
    exec (.txdone 0x01#8) sending = .next u ∧ u.tsr.getLsbD 0 = true := ⟨_, _, rfl, by decide, rfl, by decide⟩
theorem witness_WhatMayChangeMemoryAndTheRing : ∃ t, exec (.dwr (.byte 0x11#8)) (moving .writing 2#3 2#16) = .next t ∧
    t.mem ≠ (moving .writing 2#3 2#16).mem := ⟨_, rfl, by decide⟩

end Sys2Proof.Tests
end

section
/-! # The receive engine (spec/42_receive.md): proofs -/

namespace Sys2Proof.Machine

/-! ## What a delivery can do -/

/-- The four ends of `Deliver` (R230), each with the conditions under which it is reached. -/
inductive Delivered (frame : List Byte) (errs : Byte) (s : State) : State → Prop where
  /-- the frame goes by without a trace (R231, R233, R235, R236) -/
  | dropped (silent : rxSilent s frame = true) : Delivered frame errs s (opened s)
  /-- the frame has errors and these are not accepted (R237) -/
  | refused (passes : rxSilent s frame = false) (bad : errs ≠ 0x00#8) (strict : errorsOk s.rcr = false) :
      Delivered frame errs s (irqUpdate (rxRefuse errs (opened s)))
  /-- the frame reaches the ring (R240 to R244) -/
  | stored (fits : storesFrame frame errs s) : Delivered frame errs s (irqUpdate (rxStore frame errs (opened s)))
  /-- the ring has no room for the frame (R239) -/
  | overflowed (passes : rxSilent s frame = false) (valid : errs = 0x00#8 ∨ errorsOk s.rcr = true)
      (full : ringAvail s ≤ pagesFor frame.length) : Delivered frame errs s (irqUpdate (rxOverflow (opened s)))

/-- A delivery that has a next state ends in one of the four ways. -/
theorem delivered_of_exec_rx {frame : List Byte} {errs : Byte} {s t : State} (h : exec (.rx frame errs) s = .next t) :
    Delivered frame errs s t := by
  change execRx frame errs s = .next t at h
  unfold execRx at h
  split at h
  · cases h
  split at h
  · next silent =>
    cases h
    exact .dropped silent
  next loud =>
  have passes : rxSilent s frame = false := by simpa using loud
  split at h
  · next bad =>
    cases h
    exact .refused passes bad.1 bad.2
  next noError =>
  have valid : errs = 0x00#8 ∨ errorsOk s.rcr = true := by
    simpa [or_iff_not_imp_left] using noError
  split at h
  · next fits =>
    cases h
    exact .stored ⟨passes, valid, fits⟩
  · next full =>
    cases h
    exact .overflowed passes valid (Nat.le_of_not_lt full)

/-! ## A core that is not running (R231) -/

/-- R208, in terms of the two bits of CR. -/
theorem running_eq_false_iff (c : CommandReg) : running c = false ↔ c.stop = true ∨ c.start = false := by
  unfold running
  cases c.start <;> cases c.stop <;> decide

/-- A frame that goes by without a trace changes nothing but the result. -/
theorem exec_rx_of_silent {frame : List Byte} {errs : Byte} {s : State} (domain : verdictOk errs = true)
    (silent : rxSilent s frame = true) : exec (.rx frame errs) s = .next (quiet s) := by
  change execRx frame errs s = .next (quiet s)
  rw [execRx, if_neg (by simp [domain]), if_pos silent]
  rfl

/-- R231: without a running core no frame has an effect. -/
theorem exec_rx_of_not_running {frame : List Byte} {errs : Byte} {s : State} (domain : verdictOk errs = true)
    (idle : running s.cr = false) : exec (.rx frame errs) s = .next (quiet s) :=
  exec_rx_of_silent domain (by simp [rxSilent, idle])

/-! ## Command-register writes -/

/-- A row of format CRVAL is performed as the CR write that carries it (R101, log 7). -/
theorem exec_of_crValue {i : Instr} {v : Byte} (h : crValue i = some v) (s : State) :
    exec i s = crWrite (.byte v) s := by
  cases i with
  | crStop _ | crStart _ _ | crXmit _ | crRdmaRd _ _ | crRdmaWr _ _ | crRdmaSend _ _ | crRdmaAbort _ _ _
  | crRdmaAbort0 _ _ | crPage _ _ =>
    cases h
    rfl
  | _ => nomatch h

/-- Every operation that writes `v` to CR is the CR write of a host value that adapts to `v` (R113). -/
theorem exec_of_writesCr {i : Instr} {v : Byte} (h : writesCr i v) (s : State) :
    ∃ hv, low8 hv = v ∧ exec i s = crWrite hv s := by
  obtain ⟨hv, rfl, hlow⟩ | hcr := h
  · exact ⟨hv, hlow, rfl⟩
  · exact ⟨.byte v, rfl, exec_of_crValue hcr s⟩

/-- A CR write that is a step of the model (R201) stores and then updates the interrupt line. -/
theorem crWrite_next {hv : HostVal} {s t : State} (h : crWrite hv s = .next t) :
    t = irqUpdate (crStore (low8 hv) (opened s)) := by
  unfold crWrite at h
  split at h
  · cases h
  · cases h
    rfl

/-- A CR write leaves the core running exactly if its value sets `start` with `stop` clear (R208). -/
theorem running_crStore (v : Byte) (s : State) : running (crStore v s).cr = (staBit v && !stpBit v) := by
  rw [crStore_cr, running]

/-- A write with the stop bit set is never refused: `send` has no effect in a stopped core (R207, R305). -/
theorem crWrite_of_stop {hv : HostVal} (stop : stpBit (low8 hv) = true) (s : State) :
    crWrite hv s = .next (irqUpdate (crStore (low8 hv) (opened s))) := by
  rw [crWrite, if_neg (by simp [sendRefused, stop])]
  rfl

/-- A write with the stop bit set does steps 2 to 5 of R201 alone: no command is issued and nothing is triggered. -/
theorem crStore_of_stop {v : Byte} (stop : stpBit v = true) (s : State) : crStore v s = crFields v s := by
  have stopped : (crFields v s).cr.stop = true := by rw [crFields_eq, stop]
  rw [crStore, crIssue, if_pos stopped, crTrigger, if_neg (by simp [running, stopped])]

/-- A stop reports itself in ISR (R209). -/
theorem crStore_isr_of_stop {v : Byte} (stop : stpBit v = true) (s : State) :
    (crStore v s).isr = s.isr ||| isrReset := by
  rw [crStore_of_stop stop, crFields_eq, if_pos stop]

/-- The value of CR.STOP has the stop bit (R202). -/
theorem stpBit_crStopValue (rest : BitVec 7) : stpBit (crStopValue rest) = true :=
  BitVec.getLsbD_append (x := rest) (y := 1#1) (i := 0)

/-- Settles O34: an idle core drops every frame, and a stop, a CR write that does not start, and a hard reset each leave
the core idle. -/
theorem framesAreDroppedWhileNotRunning : Obligations.FramesAreDroppedWhileNotRunning := by
  refine ⟨?idle, ?afterStop, ?afterCrWrite, ?afterReset⟩
  case idle =>
    intro frame errs s domain idle
    exact exec_rx_of_not_running domain ((running_eq_false_iff s.cr).mpr idle)
  case afterStop =>
    intro rest frame errs s domain
    have stop : stpBit (low8 (.byte (crStopValue rest))) = true := stpBit_crStopValue rest
    refine ⟨_, crWrite_of_stop stop s, ?_, exec_rx_of_not_running domain ?_⟩
    · rw [irqUpdate_isr, crStore_isr_of_stop stop]
      simp [isrReset]
    · rw [irqUpdate_cr, running_crStore, stop, Bool.not_true, Bool.and_false]
  case afterCrWrite =>
    intro i v frame errs s t writes step domain noStart
    obtain ⟨hv, rfl, hexec⟩ := exec_of_writesCr writes s
    rw [hexec] at step
    rw [crWrite_next step]
    refine exec_rx_of_not_running domain ?_
    rw [irqUpdate_cr, running_crStore]
    simpa [staBit, stpBit] using noStart
  case afterReset =>
    intro content frame errs s domain _
    exact ⟨_, rfl, rfl, exec_rx_of_not_running domain rfl⟩

/-! ## What a delivery does to the ring (R243) -/

/-- Settles O42, by the four ends of a delivery: only a stored frame touches the ring pointers, and of these only
`curr_page`. -/
theorem engineAdvancesOnlyTheCurrentPage : Obligations.EngineAdvancesOnlyTheCurrentPage := by
  intro frame errs s t h
  cases delivered_of_exec_rx h with
  | dropped silent => exact ⟨rfl, rfl, rfl, fun fits => by simp [fits.1] at silent, fun _ => rfl⟩
  | refused passes bad strict =>
    exact ⟨rfl, rfl, rfl, fun ⟨_, valid, _⟩ => by simp [bad, strict] at valid, fun _ => rfl⟩
  | stored fits =>
    refine ⟨rfl, rfl, rfl, fun _ => ⟨?_, rfl, rfl⟩, fun misfit => absurd fits misfit⟩
    rw [Nat.add_comm 4]
    rfl
  | overflowed passes valid full =>
    exact ⟨rfl, rfl, rfl, fun ⟨_, _, fits⟩ => absurd full (Nat.not_le_of_lt fits), fun _ => rfl⟩

/-! ## The interrupt of a delivery (R245) -/

/-- The line function, as the statements write it (R343). -/
theorem lineActive_iff (isr imr : Byte) : lineActive isr imr = true ↔ isr &&& imr ≠ 0x00#8 := by
  simp [lineActive]

/-- Setting flags never ends an interrupt condition (R343). -/
theorem lineActive_or {isr imr : Byte} (flags : Byte) (active : lineActive isr imr = true) :
    lineActive (isr ||| flags) imr = true := by
  rw [lineActive_iff] at active ⊢
  rw [BitVec.and_or_distrib_right]
  exact fun zero => active (BitVec.or_eq_zero_iff.mp zero).1

/-- A line that does not fall has at most one event, its rise (R344). -/
theorem irqEvents_of_rising {before after : Bool} (keeps : before = true → after = true) :
    irqEvents before after = if before = false ∧ after = true then [.irq true] else [] := by
  cases before <;> cases after <;> simp_all [irqEvents]

/-- R344 at the end of an operation that has only set flags: the sole event there can be is that the line rises. -/
theorem irqUpdate_out_of_flags_set {s u : State} (flags : Byte) (settled : s.lineSettled) (hisr : u.isr = s.isr ||| flags)
    (himr : u.imr = s.imr) (hline : u.irqLine = s.irqLine) (hout : u.out = Output.silent) :
    (irqUpdate u).out = ⟨none, if s.irqLine = false ∧ u.isr &&& u.imr ≠ 0x00#8 then [.irq true] else []⟩ := by
  have keeps : s.irqLine = true → lineActive u.isr u.imr = true := fun active => by
    rw [hisr, himr]
    exact lineActive_or flags (settled ▸ active)
  simp only [irqUpdate_out, hout, hline, irqEvents_of_rising keeps, lineActive_iff]
  rfl

/-- Settles O43, by the four ends of a delivery: a dropped frame leaves the line as settled as it was, and each of the
other three sets flags and then updates the line. -/
theorem deliveryRaisesTheLineOnce : Obligations.DeliveryRaisesTheLineOnce := by
  intro frame errs s t settled h
  cases delivered_of_exec_rx h with
  | dropped _ =>
    have quietLine : ¬ (s.irqLine = false ∧ s.isr &&& s.imr ≠ 0x00#8) := by
      rw [settled, ← lineActive_iff]
      simp
    exact congrArg (Output.mk none) (if_neg quietLine).symm
  | refused _ _ _ => exact irqUpdate_out_of_flags_set isrRxErr settled rfl rfl rfl rfl
  | stored _ => exact irqUpdate_out_of_flags_set (if errs = 0x00#8 then isrPktRx else isrRxErr) settled rfl rfl rfl rfl
  | overflowed _ _ _ => exact irqUpdate_out_of_flags_set isrOverwrite settled rfl rfl rfl rfl

end Sys2Proof.Machine
end

section
/-! # The transmit engine (spec/43_transmit.md): proofs -/

namespace Sys2Proof.Machine

/-! ## A trigger that is refused (R206, R274) -/

/-- Where the write leaves the core not running, or a transmission is pending, R201 ends with step 6. -/
theorem crStore_of_refused {v : Byte} {s : State}
    (refused : staBit v = false ∨ stpBit v = true ∨ s.cr.txPacket = true) :
    crStore v s = crIssue (decodeRdma s.cr.rdmaCmd) v (crFields v s) := by
  rw [crStore, crTrigger, if_neg]
  rw [crIssue_cr, running]
  obtain idle | stop | busy := refused
  · simp [idle]
  · simp [stop]
  · simp [busy]

/-! The value without bit 2 has the other fields of the value (R108). -/

theorem stpBit_without_txp (v : Byte) : stpBit (v &&& 0xFB#8) = stpBit v := by
  simp [stpBit]

theorem staBit_without_txp (v : Byte) : staBit (v &&& 0xFB#8) = staBit v := by
  simp [staBit]

theorem cmdField_without_txp (v : Byte) : cmdField (v &&& 0xFB#8) = cmdField v := by
  rw [cmdField, BitVec.extractLsb'_and]
  exact BitVec.and_allOnes

theorem pageField_without_txp (v : Byte) : pageField (v &&& 0xFB#8) = pageField v := by
  rw [pageField, BitVec.extractLsb'_and]
  exact BitVec.and_allOnes

/-- R305 does not look at bit 2. -/
theorem sendRefused_without_txp (v : Byte) (s : State) : sendRefused (v &&& 0xFB#8) s = sendRefused v s := by
  simp only [sendRefused, stpBit_without_txp, cmdField_without_txp]

/-- R274: bit 2 of a value that cannot trigger means nothing. -/
theorem crStore_without_txp {v : Byte} {s : State}
    (refused : staBit v = false ∨ stpBit v = true ∨ s.cr.txPacket = true) :
    crStore (v &&& 0xFB#8) s = crStore v s := by
  have stillRefused : staBit (v &&& 0xFB#8) = false ∨ stpBit (v &&& 0xFB#8) = true ∨ s.cr.txPacket = true := by
    rwa [staBit_without_txp, stpBit_without_txp]
  rw [crStore_of_refused refused, crStore_of_refused stillRefused, crIssue, crIssue]
  simp only [crFields_eq, stpBit_without_txp, staBit_without_txp, cmdField_without_txp, pageField_without_txp]

/-- Two CR writes that are refused alike and store alike are one. -/
theorem crWrite_congr {hv hv' : HostVal} {s : State} (hrefused : sendRefused (low8 hv') s = sendRefused (low8 hv) s)
    (hstore : crStore (low8 hv') (opened s) = crStore (low8 hv) (opened s)) : crWrite hv' s = crWrite hv s := by
  rw [crWrite, crWrite, regWrite, regWrite, hrefused, hstore]

/-- TSR is written by a trigger only (steps 2 to 6 of R201). -/
theorem crIssue_crFields_tsr (oldClass : RdmaClass) (v : Byte) (s : State) :
    (crIssue oldClass v (crFields v s)).tsr = s.tsr := by
  rw [crIssue_frame, crFields_eq]

/-- Events are emitted by a trigger only (steps 2 to 6 of R201). -/
theorem crIssue_crFields_out (oldClass : RdmaClass) (v : Byte) (s : State) :
    (crIssue oldClass v (crFields v s)).out = s.out := by
  rw [crIssue_frame, crFields_eq]

/-! ## The pending bit after a CR write (R274) -/

/-- A core that does not run after the write does not come to have a transmission pending. -/
theorem crStore_txPacket_of_not_running {v : Byte} {s : State} (idle : staBit v = false ∨ stpBit v = true)
    (clear : s.cr.txPacket = false) : (crStore v s).cr.txPacket = false := by
  rw [crStore_cr]
  obtain idle | stop := idle
  · simp [idle, clear]
  · simp [stop]

/-- A write that is no stop cancels nothing. -/
theorem crStore_txPacket_of_pending {v : Byte} {s : State} (busy : s.cr.txPacket = true) (going : stpBit v = false) :
    (crStore v s).cr.txPacket = true := by
  rw [crStore_cr]
  simp [going, busy]

/-! ## The example of R274 -/

/-- An abort leaves the line and what it depends on alone, even one of a transfer in progress (R304). -/
theorem rdmaIssue_abort_lineSettled {oldClass : RdmaClass} {s : State} (settled : s.lineSettled) :
    (rdmaIssue oldClass .abort s).lineSettled := by
  rw [rdmaIssue]
  split <;> exact settled

/-- Bit 2 of CR as read is the pending bit (R108). -/
theorem crByte_getLsbD_two (c : CommandReg) : (crByte c).getLsbD 2 = c.txPacket := by
  change (c.pgsel ++ c.rdmaCmd ++ BitVec.ofBool c.txPacket ++ BitVec.ofBool c.start ++ BitVec.ofBool c.stop).getLsbD 2 = _
  rw [BitVec.getLsbD_append, BitVec.getLsbD_append, BitVec.getLsbD_append]
  simp

/-- The write 0x26 over a pending transmission repeats the abort, so the line stays settled. -/
theorem crStore_rewrite_lineSettled {s : State} (busy : s.cr.txPacket = true) (settled : s.lineSettled) :
    (crStore 0x26#8 s).lineSettled := by
  rw [crStore_of_refused (.inr (.inr busy)), crFields_eq]
  exact rdmaIssue_abort_lineSettled settled

/-- The example of R274: over a pending transmission the write 0x26 emits nothing and CR reads 0x26. -/
theorem crStore_rewrite {s : State} (busy : s.cr.txPacket = true) (settled : s.lineSettled) :
    (irqUpdate (crStore 0x26#8 s)).out = s.out ∧ crByte (irqUpdate (crStore 0x26#8 s)).cr = 0x26#8 := by
  rw [irqUpdate_of_lineSettled (crStore_rewrite_lineSettled busy settled)]
  constructor
  · rw [crStore_of_refused (.inr (.inr busy)), crIssue_crFields_out]
  · rw [crStore_cr, busy]
    decide

/-- Settles O23: a refused trigger ends R201 at step 6, where bit 2 of the value is not looked at and no frame is handed
over; what becomes of the pending bit is read off the value CR takes. -/
theorem refusedTriggerDoesNothing : Obligations.RefusedTriggerDoesNothing := by
  rintro hv v s t rfl step
  change crWrite hv s = .next t at step
  obtain rfl := crWrite_next step
  refine ⟨?refused, crStore_txPacket_of_not_running (s := opened s), crStore_txPacket_of_pending (s := opened s), ?rewrite⟩
  case refused =>
    intro refused
    have stored := crStore_of_refused (v := low8 hv) (s := opened s) refused
    refine ⟨fun hv' low => ?_, ?_, ?_⟩
    · refine (crWrite_congr ?_ ?_).trans step
      · rw [low, sendRefused_without_txp]
      · rw [low, crStore_without_txp (s := opened s) refused]
    · rw [irqUpdate_sentFrames, stored, crIssue_crFields_out, opened_out]
      rfl
    · rw [irqUpdate_tsr, stored, crIssue_crFields_tsr, opened_tsr]
  case rewrite =>
    intro value before settled
    have busy : s.cr.txPacket = true := by
      rw [← crByte_getLsbD_two, before]
      rfl
    rw [value]
    exact crStore_rewrite (s := opened s) busy settled

end Sys2Proof.Machine
end

section
/-! # The remote-DMA engine (spec/44_remote_dma.md): proofs -/

namespace Sys2Proof.Machine

/-! ## A CR write that is no stop (R201, R301) -/

/-- R301 `active`, as the statements write it. -/
theorem rdmaActive_iff (s : State) : rdmaActive s.rdmaState = true ↔ s.transferring := by
  simp [rdmaActive, State.transferring]

/-- A CR write that R305 does not refuse stores and then updates the interrupt line. -/
theorem crWrite_of_performed {hv : HostVal} {s : State} (performed : sendRefused (low8 hv) s = false) :
    crWrite hv s = .next (irqUpdate (crStore (low8 hv) (opened s))) := by
  rw [crWrite, if_neg (by simp [performed])]
  rfl

/-- R305 refuses no command but `send`. -/
theorem sendRefused_of_abort {v : Byte} (abort : decodeRdma (cmdField v) = .abort) (s : State) :
    sendRefused v s = false := by
  simp [sendRefused, abort]

/-- Issuing a command neither reads nor writes CR. -/
theorem rdmaIssue_with_cr (oldClass newClass : RdmaClass) (c : CommandReg) (s : State) :
    rdmaIssue oldClass newClass { s with cr := c } = { rdmaIssue oldClass newClass s with cr := c } := by
  cases newClass <;> (simp only [rdmaIssue]; split <;> rfl)

/-- The trigger changes CR, TSR and the result only (R270). -/
theorem crTrigger_frame (oldTxp : Bool) (v : Byte) (s : State) :
    crTrigger oldTxp v s = { s with
      cr := (crTrigger oldTxp v s).cr
      tsr := (crTrigger oldTxp v s).tsr
      out := (crTrigger oldTxp v s).out } := by
  obtain ⟨_, triggered⟩ | ⟨_, ignored⟩ := crTrigger_cases oldTxp v s
  · rw [triggered]
    rfl
  · rw [ignored]

/-- Without a stop a CR write is, but for CR, TSR and the result, the command it issues (R207). -/
theorem crStore_of_going {v : Byte} (going : stpBit v = false) (s : State) :
    crStore v s = { rdmaIssue (decodeRdma s.cr.rdmaCmd) (decodeRdma (cmdField v)) s with
      cr := (crStore v s).cr
      tsr := (crStore v s).tsr
      out := (crStore v s).out } := by
  have fields : crFields v s = { s with cr := (crFields v s).cr } := by
    rw [crFields_eq, going]
    rfl
  have started : (crFields v s).cr.stop = false := by rw [crFields_eq, going]
  have issued : crIssue (decodeRdma s.cr.rdmaCmd) v (crFields v s) =
      { rdmaIssue (decodeRdma s.cr.rdmaCmd) (decodeRdma (cmdField v)) s with cr := (crFields v s).cr } := by
    rw [crIssue, if_neg (by simp [started]), fields, rdmaIssue_with_cr]
  rw [crStore, crTrigger_frame, issued]

/-! ## The abort (R304) -/

/-- R304, with its condition as the statements write it. -/
theorem rdmaIssue_abort (oldClass : RdmaClass) (s : State) :
    rdmaIssue oldClass .abort s = if oldClass ≠ .abort ∨ s.transferring then rdmaAbort s else s := by
  simp only [rdmaIssue, rdmaActive_iff, ne_comm (a := RdmaClass.abort)]

/-! ## The values of the class `abort` (R109) -/

/-- R109: the codes from 4 on and the code 0 are the class `abort`. -/
theorem decodeRdma_eq_abort_iff (cmd : BitVec 3) : decodeRdma cmd = .abort ↔ cmd.getLsbD 2 = true ∨ cmd = 0#3 := by
  revert cmd
  decide

/-- Bits 5 and 0 of a value: an abort code that has its high bit set, and no stop. -/
theorem abort_of_high_bit {v : Byte} (h : v &&& 0x21#8 = 0x20#8) :
    stpBit v = false ∧ decodeRdma (cmdField v) = .abort := by
  have bits (i : Nat) : (v.getLsbD i && (0x21#8).getLsbD i) = (0x20#8).getLsbD i := by rw [← BitVec.getLsbD_and, h]
  refine ⟨by simpa [stpBit] using bits 0, (decodeRdma_eq_abort_iff _).mpr (.inl ?_)⟩
  simpa [cmdField] using bits 5

/-- Bits 5:3 and 0 of a value: the code 000, and no stop. -/
theorem abort_of_zero_code {v : Byte} (h : v &&& 0x39#8 = 0x00#8) :
    stpBit v = false ∧ decodeRdma (cmdField v) = .abort := by
  have stop : stpBit (v &&& 0x39#8) = stpBit v := by simp [stpBit]
  have code : cmdField (v &&& 0x39#8) = cmdField v := by
    rw [cmdField, BitVec.extractLsb'_and]
    exact BitVec.and_allOnes
  rw [← stop, ← code, h]
  decide

/-- Settles O26: a value of the class `abort` is no stop, so what its write does to the engine, ISR and memory is the
abort it issues, and that is `rdmaAbort` or nothing as R304 says. -/
theorem abortDiscardsTheTransfer : Obligations.AbortDiscardsTheTransfer := by
  intro i v s row value
  have writes : writesCr i v := by
    obtain wrCr | ⟨p, c, x, rfl, rfl⟩ | ⟨p, x, rfl, rfl⟩ := row
    · exact .inl wrCr
    · exact .inr rfl
    · exact .inr rfl
  obtain ⟨going, abort⟩ := value.elim abort_of_high_bit abort_of_zero_code
  obtain ⟨hv, rfl, hexec⟩ := exec_of_writesCr writes s
  refine ⟨_, hexec.trans (crWrite_of_performed (sendRefused_of_abort abort s)), ?_⟩
  rw [crStore_of_going going, abort, rdmaIssue_abort]
  split
  · next acts =>
    exact ⟨rfl, rfl, fun _ => ⟨rfl, rfl, rfl⟩, fun same resting => absurd acts (not_or.mpr ⟨not_not.mpr same, resting⟩)⟩
  · next idle => exact ⟨rfl, rfl, fun acts => absurd acts idle, fun _ _ => ⟨rfl, rfl, rfl⟩⟩

end Sys2Proof.Machine
end

section
/-! # Encoding (spec/30_encoding.md): proofs -/

namespace Sys2Proof

open Sys2Proof.Laws Sys2Proof.Machine

/-! ## Operands -/

/-- R77: what a width is decoded to. -/
theorem decodeWidth_eq_ok {width : Nat} {w : Width} (h : decodeWidth width = .ok w) :
    (width = 8 ∧ w = .byte) ∨ (width = 16 ∧ w = .word) := by
  unfold decodeWidth at h
  split at h
  · cases h
    exact .inl ⟨rfl, rfl⟩
  · cases h
    exact .inr ⟨rfl, rfl⟩
  · cases h

/-- R100: what a value is decoded to, and from nothing else. -/
theorem decodeValue_eq_ok {width value : Nat} {v : HostVal} (h : decodeValue width value = .ok v) :
    (∃ b : Byte, v = .byte b ∧ width = 8 ∧ value = b.toNat) ∨ ∃ x : Word, v = .word x ∧ width = 16 ∧ value = x.toNat := by
  unfold decodeValue at h
  split at h
  · cases h
  · next hw =>
    obtain ⟨rfl, _⟩ | ⟨_, nw⟩ := decodeWidth_eq_ok hw
    · split at h
      · next fits =>
        cases h
        exact .inl ⟨_, rfl, rfl, (Nat.mod_eq_of_lt fits).symm⟩
      · cases h
    · cases nw
  · next hw =>
    obtain ⟨_, nw⟩ | ⟨rfl, _⟩ := decodeWidth_eq_ok hw
    · cases nw
    · split at h
      · next fits =>
        cases h
        exact .inr ⟨_, rfl, rfl, (Nat.mod_eq_of_lt fits).symm⟩
      · cases h

theorem decodeValue_byte (b : Byte) : decodeValue 8 b.toNat = .ok (.byte b) := by
  change (if b.toNat < 256 then _ else _) = _
  rw [if_pos b.isLt, BitVec.ofNat_toNat, BitVec.setWidth_eq]

theorem decodeValue_word (x : Word) : decodeValue 16 x.toNat = .ok (.word x) := by
  change (if x.toNat < 65536 then _ else _) = _
  rw [if_pos x.isLt, BitVec.ofNat_toNat, BitVec.setWidth_eq]

/-- U9: no other width is one. -/
theorem decodeWidth_of_bad {width : Nat} (h8 : width ≠ 8) (h16 : width ≠ 16) : decodeWidth width = .error .badWidth := by
  unfold decodeWidth
  split
  · exact absurd rfl h8
  · exact absurd rfl h16
  · rfl

theorem decodeValue_of_bad_width {width : Nat} (h8 : width ≠ 8) (h16 : width ≠ 16) (value : Nat) :
    decodeValue width value = .error .badWidth := by
  rw [decodeValue, decodeWidth_of_bad h8 h16]

/-- U9: a value has to fit the width of its access. -/
theorem decodeValue_of_too_wide {width value : Nat} (hw : width = 8 ∨ width = 16) (h : 2 ^ width ≤ value) :
    decodeValue width value = .error .badValue := by
  obtain rfl | rfl := hw
  · exact if_neg (Nat.not_lt_of_le h)
  · exact if_neg (Nat.not_lt_of_le h)

/-! ## Register accesses -/

/-- A register read decodes to the entry of the page for its offset (R102). -/
theorem decode_busRead {page : BitVec 2} {off : Nat} {row : Width → Instr} (entry : readRow page off = some row)
    (w : Width) : decode page (busRead off w) = .ok (row w) := by
  cases w <;> simp [busRead, decode, entry, decodeWidth]

/-- So does a register write. -/
theorem decode_busWrite {page : BitVec 2} {off : Nat} {row : HostVal → Instr} (entry : writeRow page off = some row)
    (v : HostVal) : decode page (busWrite off v) = .ok (row v) := by
  cases v <;> simp [busWrite, decode, entry, decodeValue_byte, decodeValue_word]

/-- What a register read that decodes is. -/
theorem decode_regRead_eq_ok {page : BitVec 2} {off width : Nat} {i : Instr}
    (h : decode page (.regRead off width) = .ok i) :
    ∃ row w, readRow page off = some row ∧ i = row w ∧ busRead off w = .regRead off width := by
  simp only [decode] at h
  split at h
  · cases h
  · cases h
  · next row w entry hw =>
    cases h
    refine ⟨row, w, entry, rfl, ?_⟩
    obtain ⟨rfl, rfl⟩ | ⟨rfl, rfl⟩ := decodeWidth_eq_ok hw <;> rfl

/-- What a register write that decodes is. -/
theorem decode_regWrite_eq_ok {page : BitVec 2} {off width value : Nat} {i : Instr}
    (h : decode page (.regWrite off width value) = .ok i) :
    ∃ row v, writeRow page off = some row ∧ i = row v ∧ busWrite off v = .regWrite off width value := by
  simp only [decode] at h
  split at h
  · cases h
  · cases h
  · next row v entry hv =>
    cases h
    refine ⟨row, v, entry, rfl, ?_⟩
    obtain ⟨b, rfl, rfl, rfl⟩ | ⟨x, rfl, rfl, rfl⟩ := decodeValue_eq_ok hv <;> rfl

/-- The row of an operation stands on the page, or on every page (R101, R102). -/
abbrev StandsOn (i : Instr) (page : BitVec 2) : Prop := rowPage i = none ∨ rowPage i = some page

theorem page_of_standsOn {i : Instr} {p page : BitVec 2} (h : rowPage i = some p) (on : StandsOn i page) : page = p := by
  obtain every | this := on
  · cases h.symm.trans every
  · cases h.symm.trans this
    rfl

/-- A register page is one of four (R102). -/
theorem page_cases (page : BitVec 2) : page = 0#2 ∨ page = 1#2 ∨ page = 2#2 ∨ page = 3#2 := by
  revert page
  decide

/-! ## The entries of the register map (R103 to R107) -/

/-- The selector of a register read (R101). -/
def readSelector (page : BitVec 2) (off : Nat) : Byte := 0b00#2 ++ page ++ BitVec.ofNat 4 off

/-- The selector of a register write (R101). -/
def writeSelector (page : BitVec 2) (off : Nat) : Byte := 0b01#2 ++ page ++ BitVec.ofNat 4 off

theorem selector_busRead (page : BitVec 2) (off : Nat) (w : Width) :
    selector page (busRead off w) = readSelector page off := by
  cases w <;> rfl

theorem selector_busWrite (page : BitVec 2) (off : Nat) (v : HostVal) :
    selector page (busWrite off v) = writeSelector page off := by
  cases v <;> rfl

/-- What an entry of a read page says of its row: offset, encoding, page, well-formedness, no command, selector. -/
abbrev ReadEntry (page : BitVec 2) (off : Nat) (row : Width → Instr) : Prop :=
  off ≤ 0x0F ∧ ∀ w, encode (row w) = busRead off w ∧ rowPage (row w) = some page ∧ (row w).wellFormed = true ∧
    crValue (row w) = none ∧ opcodeRow (row w) = (readSelector page off, 0xFF#8)

/-- The same of an entry of a write page. -/
abbrev WriteEntry (page : BitVec 2) (off : Nat) (row : HostVal → Instr) : Prop :=
  off ≤ 0x0F ∧ ∀ v, encode (row v) = busWrite off v ∧ rowPage (row v) = some page ∧ (row v).wellFormed = true ∧
    crValue (row v) = none ∧ opcodeRow (row v) = (writeSelector page off, 0xFF#8)

theorem readPage0_entry {off : Nat} {row : Width → Instr} (h : readPage0 off = some row) : ReadEntry 0#2 off row := by
  unfold readPage0 at h
  split at h <;> cases h <;> exact ⟨by decide, fun _ => ⟨rfl, rfl, rfl, rfl, rfl⟩⟩

theorem writePage0_entry {off : Nat} {row : HostVal → Instr} (h : writePage0 off = some row) : WriteEntry 0#2 off row := by
  unfold writePage0 at h
  split at h <;> cases h <;> exact ⟨by decide, fun _ => ⟨rfl, rfl, rfl, rfl, rfl⟩⟩

theorem readPage1_entry {off : Nat} {row : Width → Instr} (h : readPage1 off = some row) : ReadEntry 1#2 off row := by
  unfold readPage1 at h
  split at h <;> cases h <;> exact ⟨by decide, fun _ => ⟨rfl, rfl, rfl, rfl, rfl⟩⟩

theorem writePage1_entry {off : Nat} {row : HostVal → Instr} (h : writePage1 off = some row) : WriteEntry 1#2 off row := by
  unfold writePage1 at h
  split at h <;> cases h <;> exact ⟨by decide, fun _ => ⟨rfl, rfl, rfl, rfl, rfl⟩⟩

theorem readPage2_entry {off : Nat} {row : Width → Instr} (h : readPage2 off = some row) : ReadEntry 2#2 off row := by
  unfold readPage2 at h
  split at h <;> cases h <;> exact ⟨by decide, fun _ => ⟨rfl, rfl, rfl, rfl, rfl⟩⟩

theorem writePage2_entry {off : Nat} {row : HostVal → Instr} (h : writePage2 off = some row) : WriteEntry 2#2 off row := by
  unfold writePage2 at h
  split at h <;> cases h <;> exact ⟨by decide, fun _ => ⟨rfl, rfl, rfl, rfl, rfl⟩⟩

theorem readPage3_entry {off : Nat} {row : Width → Instr} (h : readPage3 off = some row) : ReadEntry 3#2 off row := by
  unfold readPage3 at h
  split at h <;> cases h <;> exact ⟨by decide, fun _ => ⟨rfl, rfl, rfl, rfl, rfl⟩⟩

theorem writePage3_entry {off : Nat} {row : HostVal → Instr} (h : writePage3 off = some row) : WriteEntry 3#2 off row := by
  unfold writePage3 at h
  split at h <;> cases h <;> exact ⟨by decide, fun _ => ⟨rfl, rfl, rfl, rfl, rfl⟩⟩

/-- A register read is RD_CR, at offset 0 of every page, or an entry of the page. -/
theorem readRow_cases {page : BitVec 2} {off : Nat} {row : Width → Instr} (h : readRow page off = some row) :
    (off = 0 ∧ row = .rdCr) ∨ ReadEntry page off row := by
  unfold readRow at h
  split at h
  · next zero =>
    cases h
    exact .inl ⟨zero, rfl⟩
  · right
    obtain rfl | rfl | rfl | rfl := page_cases page
    · exact readPage0_entry h
    · exact readPage1_entry h
    · exact readPage2_entry h
    · exact readPage3_entry h

/-- A register write is WR_CR, at offset 0 of every page, or an entry of the page. -/
theorem writeRow_cases {page : BitVec 2} {off : Nat} {row : HostVal → Instr} (h : writeRow page off = some row) :
    (off = 0 ∧ row = .wrCr) ∨ WriteEntry page off row := by
  unfold writeRow at h
  split at h
  · next zero =>
    cases h
    exact .inl ⟨zero, rfl⟩
  · right
    obtain rfl | rfl | rfl | rfl := page_cases page
    · exact writePage0_entry h
    · exact writePage1_entry h
    · exact writePage2_entry h
    · exact writePage3_entry h

/-- Every offset up to 0x0F has an entry on every page (R102). -/
theorem readRow_of_offset_le : ∀ page : BitVec 2, ∀ off ≤ 0x0F, ∃ row, readRow page off = some row := by
  simp only [← Option.isSome_iff_exists]
  decide

theorem writeRow_of_offset_le : ∀ page : BitVec 2, ∀ off ≤ 0x0F, ∃ row, writeRow page off = some row := by
  simp only [← Option.isSome_iff_exists]
  decide

/-- The register map ends at offset 0x0F. -/
theorem readRow_of_offset_gt {page : BitVec 2} {off : Nat} (h : 0x0F < off) : readRow page off = none := by
  refine Option.eq_none_iff_forall_ne_some.mpr fun row entry => ?_
  obtain ⟨zero, _⟩ | spec := readRow_cases entry
  · omega
  · exact absurd spec.1 (Nat.not_le_of_lt h)

theorem writeRow_of_offset_gt {page : BitVec 2} {off : Nat} (h : 0x0F < off) : writeRow page off = none := by
  refine Option.eq_none_iff_forall_ne_some.mpr fun row entry => ?_
  obtain ⟨zero, _⟩ | spec := writeRow_cases entry
  · omega
  · exact absurd spec.1 (Nat.not_le_of_lt h)

/-! ## What an operation is in the tables -/

/-- An operation is an access to CR, an entry of a read page or of a write page, one of the operations with a selector of
their own, or a command carried by a CR write (R101). -/
inductive TableForm : Instr → Prop where
  | rdCr (w : Width) : TableForm (.rdCr w)
  | wrCr (v : HostVal) : TableForm (.wrCr v)
  | read (page : BitVec 2) (off : Nat) (row : Width → Instr) (w : Width) (entry : readRow page off = some row)
      (spec : ReadEntry page off row) : TableForm (row w)
  | write (page : BitVec 2) (off : Nat) (row : HostVal → Instr) (v : HostVal) (entry : writeRow page off = some row)
      (spec : WriteEntry page off row) : TableForm (row v)
  | drd (w : Width) : TableForm (.drd w)
  | dwr (v : HostVal) : TableForm (.dwr v)
  | rx (frame : List Byte) (errs : Byte) : TableForm (.rx frame errs)
  | txdone (outcome : Byte) : TableForm (.txdone outcome)
  | hreset (content : List Byte) : TableForm (.hreset content)
  | command (i : Instr) (v : Byte) (carried : crValue i = some v) (enc : encode i = busWrite 0 (.byte v)) : TableForm i

/-- Every operation is one of these. -/
theorem tableForm (i : Instr) : TableForm i := by
  cases i with
  | rdCr w => exact .rdCr w
  | wrCr v => exact .wrCr v
  | drd w => exact .drd w
  | dwr v => exact .dwr v
  | rx frame errs => exact .rx frame errs
  | txdone outcome => exact .txdone outcome
  | hreset content => exact .hreset content
  | crStop _ | crStart _ _ | crXmit _ | crRdmaRd _ _ | crRdmaWr _ _ | crRdmaSend _ _ | crRdmaAbort _ _ _
  | crRdmaAbort0 _ _ | crPage _ _ => exact .command _ _ rfl rfl
  | rdP0Clda0 w | rdP0Clda1 w | rdP0Bnry w | rdP0Tsr w | rdP0Ncr w | rdP0Fifo w | rdP0Isr w | rdP0Crda0 w | rdP0Crda1 w
  | rdP0Id0 w | rdP0Id1 w | rdP0Rsr w | rdP0Cntr0 w | rdP0Cntr1 w | rdP0Cntr2 w
  | rdP1Par0 w | rdP1Par1 w | rdP1Par2 w | rdP1Par3 w | rdP1Par4 w | rdP1Par5 w | rdP1Curr w
  | rdP1Mar0 w | rdP1Mar1 w | rdP1Mar2 w | rdP1Mar3 w | rdP1Mar4 w | rdP1Mar5 w | rdP1Mar6 w | rdP1Mar7 w
  | rdP2Pstart w | rdP2Pstop w | rdP2Rnpp w | rdP2Tpsr w | rdP2Lnpp w | rdP2Acu w | rdP2Acl w
  | rdP2Off08 w | rdP2Off09 w | rdP2Off0A w | rdP2Off0B w | rdP2Rcr w | rdP2Tcr w | rdP2Dcr w | rdP2Imr w
  | rdP3Off01 w | rdP3Off02 w | rdP3Off03 w | rdP3Off04 w | rdP3Off05 w | rdP3Off06 w | rdP3Off07 w | rdP3Off08 w
  | rdP3Off09 w | rdP3Off0A w | rdP3Off0B w | rdP3Off0C w | rdP3Off0D w | rdP3Off0E w | rdP3Off0F w =>
    exact .read _ _ _ w rfl ⟨by decide, fun _ => ⟨rfl, rfl, rfl, rfl, rfl⟩⟩
  | _ => exact .write _ _ _ _ rfl ⟨by decide, fun _ => ⟨rfl, rfl, rfl, rfl, rfl⟩⟩

/-! ## Decoding and encoding -/

/-- A data-port write decodes to itself. -/
theorem decode_encode_dwr (page : BitVec 2) (v : HostVal) : decode page (encode (.dwr v)) = .ok (.dwr v) := by
  cases v <;> simp [encode, decode, decodeValue_byte, decodeValue_word]

/-- Settles O1, by what the operation is in the tables: an entry of a register page is found again under its offset, an
operation with a selector of its own under its request, and a command as the CR write that carries it. -/
theorem decodeOfEncodeIsTheOperation : Obligations.DecodeOfEncodeIsTheOperation := by
  intro i page wf on
  cases tableForm i with
  | rdCr w => exact decode_busRead rfl w
  | wrCr v => exact decode_busWrite rfl v
  | read p off row w entry spec =>
    obtain ⟨enc, stands, _, plain, _⟩ := spec.2 w
    obtain rfl := page_of_standsOn stands on
    rw [enc, plain]
    exact decode_busRead entry w
  | write p off row v entry spec =>
    obtain ⟨enc, stands, _, plain, _⟩ := spec.2 v
    obtain rfl := page_of_standsOn stands on
    rw [enc, plain]
    exact decode_busWrite entry v
  | drd w => cases w <;> rfl
  | dwr v => exact decode_encode_dwr page v
  | rx frame errs => exact if_pos wf
  | txdone outcome => exact if_pos wf
  | hreset content => exact if_pos (of_decide_eq_true wf)
  | command _ v carried enc =>
    rw [enc, carried]
    exact decode_busWrite rfl _

/-! ## Selectors (R101) -/

/-- The selectors a row of the register bank or of the external requests matches: those of its encoding (R101). -/
theorem matches_iff_selector {i : Instr} (plain : crValue i = none) (sel : Byte) :
    sel &&& (opcodeRow i).2 = (opcodeRow i).1 ↔ ∃ page, StandsOn i page ∧ selector page (encode i) = sel := by
  have full (m : Byte) : sel &&& 0xFF#8 = m ↔ m = sel := by
    rw [show sel &&& 0xFF#8 = sel from BitVec.and_allOnes, eq_comm]
  cases tableForm i with
  | rdCr w =>
    have bits : ∀ sel : Byte, sel &&& 0xCF#8 = 0x00#8 ↔ ∃ page, readSelector page 0 = sel := by decide
    simp only [opcodeRow, encode, rowPage, StandsOn, true_or, true_and, selector_busRead, bits]
  | wrCr v =>
    have bits : ∀ sel : Byte, sel &&& 0xCF#8 = 0x40#8 ↔ ∃ page, writeSelector page 0 = sel := by decide
    simp only [opcodeRow, encode, rowPage, StandsOn, true_or, true_and, selector_busWrite, bits]
  | read p off row w entry spec =>
    obtain ⟨enc, stands, _, _, opcode⟩ := spec.2 w
    simp [opcode, full, enc, StandsOn, stands, selector_busRead]
  | write p off row v entry spec =>
    obtain ⟨enc, stands, _, _, opcode⟩ := spec.2 v
    simp [opcode, full, enc, StandsOn, stands, selector_busWrite]
  | drd w => cases w <;> simp [StandsOn, rowPage, opcodeRow, full, encode, selector]
  | dwr v => cases v <;> simp [StandsOn, rowPage, opcodeRow, full, encode, selector]
  | rx frame errs => simp [StandsOn, rowPage, opcodeRow, full, encode, selector]
  | txdone outcome => simp [StandsOn, rowPage, opcodeRow, full, encode, selector]
  | hreset content => simp [StandsOn, rowPage, opcodeRow, full, encode, selector]
  | command _ v carried enc => cases plain.symm.trans carried

/-- The number and the pattern of the row a table word names. -/
def tableRow (sel : Byte) : Option (Nat × Byte × Byte) :=
  (decodeTableWord 8 sel.toNat).map fun i => (i.ctorIdx, opcodeRow i)

theorem tableRow_of_fullMask {i : Instr} {m sel : Byte} (opcode : opcodeRow i = (m, 0xFF#8))
    (named : tableRow m = some (i.ctorIdx, opcodeRow i)) (h : sel &&& (opcodeRow i).2 = (opcodeRow i).1) :
    tableRow sel = some (i.ctorIdx, opcodeRow i) := by
  rw [opcode] at h
  obtain rfl : sel = m := BitVec.and_allOnes.symm.trans h
  exact named

/-- A selector that matches an operation's row is the table word of that row (R101). -/
theorem tableRow_of_matches {i : Instr} (plain : crValue i = none) {sel : Byte}
    (h : sel &&& (opcodeRow i).2 = (opcodeRow i).1) :
    tableRow sel = some (i.ctorIdx, opcodeRow i) := by
  cases i with
  | rdCr w =>
    change sel &&& 0xCF#8 = 0x00#8 at h
    change _ = some (0, (0x00#8, 0xCF#8))
    revert sel
    decide
  | wrCr v =>
    change sel &&& 0xCF#8 = 0x40#8 at h
    change _ = some (1, (0x40#8, 0xCF#8))
    revert sel
    decide
  | crStop _ | crStart _ _ | crXmit _ | crRdmaRd _ _ | crRdmaWr _ _ | crRdmaSend _ _ | crRdmaAbort _ _ _
  | crRdmaAbort0 _ _ | crPage _ _ => nomatch plain
  | _ => exact tableRow_of_fullMask rfl rfl h

/-- Every selector of the register bank is the table word of a row it matches (R101). -/
theorem decodeTableWord_of_register :
    ∀ sel : Byte, sel.toNat < 0x80 → ∃ i ∈ decodeTableWord 8 sel.toNat, crValue i = none ∧
      sel &&& (opcodeRow i).2 = (opcodeRow i).1 := by
  decide

/-- Settles O3: a selector determines the table row, through the decoder of table words, and the selectors of the register
bank all have one. -/
theorem selectorMatchesOneRow : Obligations.SelectorMatchesOneRow := by
  refine ⟨?oneRow, fun sel i plain => matches_iff_selector plain sel, ?someRow⟩
  case oneRow =>
    intro sel i j plainI plainJ hi hj
    have same := (tableRow_of_matches plainI hi).symm.trans (tableRow_of_matches plainJ hj)
    simpa using same
  case someRow =>
    intro sel hsel
    obtain ⟨i, _, plain, fits⟩ := decodeTableWord_of_register sel hsel
    exact ⟨i, plain, fits⟩

/-! ## The decoder -/

/-- Settles O2, by the request: a register access decodes to an entry of the selected page, any other request to the
operation with its selector, and in each case the encoder gives the request back. -/
theorem decodedOperationFitsItsRow : Obligations.DecodedOperationFitsItsRow := by
  intro page request i h
  suffices i.wellFormed = true ∧ crValue i = none ∧ StandsOn i page ∧ encode i = request by
    obtain ⟨wf, plain, on, enc⟩ := this
    exact ⟨wf, plain, on, (matches_iff_selector plain _).mpr ⟨page, on, enc ▸ rfl⟩, enc⟩
  cases request with
  | regRead off width =>
    obtain ⟨row, w, entry, rfl, bus⟩ := decode_regRead_eq_ok h
    rw [← bus]
    obtain ⟨rfl, rfl⟩ | spec := readRow_cases entry
    · exact ⟨rfl, rfl, .inl rfl, rfl⟩
    · obtain ⟨enc, stands, wf, plain, _⟩ := spec.2 w
      exact ⟨wf, plain, .inr stands, enc⟩
  | regWrite off width value =>
    obtain ⟨row, v, entry, rfl, bus⟩ := decode_regWrite_eq_ok h
    rw [← bus]
    obtain ⟨rfl, rfl⟩ | spec := writeRow_cases entry
    · exact ⟨rfl, rfl, .inl rfl, rfl⟩
    · obtain ⟨enc, stands, wf, plain, _⟩ := spec.2 v
      exact ⟨wf, plain, .inr stands, enc⟩
  | dataRead width =>
    simp only [decode] at h
    split at h
    · cases h
    · next w hw =>
      cases h
      obtain ⟨rfl, rfl⟩ | ⟨rfl, rfl⟩ := decodeWidth_eq_ok hw <;> exact ⟨rfl, rfl, .inl rfl, rfl⟩
  | dataWrite width value =>
    simp only [decode] at h
    split at h
    · cases h
    · next v hv =>
      cases h
      obtain ⟨b, rfl, rfl, rfl⟩ | ⟨x, rfl, rfl, rfl⟩ := decodeValue_eq_ok hv <;> exact ⟨rfl, rfl, .inl rfl, rfl⟩
  | deliver frame errs =>
    simp only [decode] at h
    split at h
    · next domain =>
      cases h
      exact ⟨domain, rfl, .inl rfl, rfl⟩
    · cases h
  | txComplete outcome =>
    simp only [decode] at h
    split at h
    · next domain =>
      cases h
      exact ⟨domain, rfl, .inl rfl, rfl⟩
    · cases h
  | hardReset content =>
    simp only [decode] at h
    split at h
    · next domain =>
      cases h
      exact ⟨decide_eq_true domain, rfl, .inl rfl, rfl⟩
    · cases h
  | other sel => cases h

/-! ## The sub-decode of a CR write (R101) -/

/-- Each command the sub-decode gives yields the value. -/
theorem crValue_of_mem_crCommands : ∀ v : Byte, ∀ i ∈ crCommands v, crValue i = some v := by
  decide

/-- Each command is among those the sub-decode gives for its value. -/
theorem mem_crCommands_of_crValue {i : Instr} {v : Byte} (h : crValue i = some v) : i ∈ crCommands v := by
  cases i with
  | crStop rest =>
    cases h
    revert rest
    decide
  | crStart high stop =>
    cases h
    revert high stop
    decide
  | crXmit high =>
    cases h
    revert high
    decide
  | crRdmaRd pgsel txpStart | crRdmaWr pgsel txpStart | crRdmaSend pgsel txpStart | crRdmaAbort0 pgsel txpStart =>
    cases h
    revert pgsel txpStart
    decide
  | crRdmaAbort pgsel cmdLow txpStart =>
    cases h
    revert pgsel cmdLow txpStart
    decide
  | crPage pgsel rest =>
    cases h
    revert pgsel rest
    decide
  | _ => nomatch h

/-- The pattern of a row of format CRVAL matches the value (R101). -/
theorem opcodeRow_of_crValue {i : Instr} {v : Byte} (h : crValue i = some v) : v &&& (opcodeRow i).2 = (opcodeRow i).1 := by
  have row : OpcodeRow.Statement i := by
    cases i with
    | crStop rest => exact OpcodeRow.crStop rest
    | crStart high stop => exact OpcodeRow.crStart high stop
    | crXmit high => exact OpcodeRow.crXmit high
    | crRdmaRd pgsel txpStart => exact OpcodeRow.crRdmaRd pgsel txpStart
    | crRdmaWr pgsel txpStart => exact OpcodeRow.crRdmaWr pgsel txpStart
    | crRdmaSend pgsel txpStart => exact OpcodeRow.crRdmaSend pgsel txpStart
    | crRdmaAbort pgsel cmdLow txpStart => exact OpcodeRow.crRdmaAbort pgsel cmdLow txpStart
    | crRdmaAbort0 pgsel txpStart => exact OpcodeRow.crRdmaAbort0 pgsel txpStart
    | crPage pgsel rest => exact OpcodeRow.crPage pgsel rest
    | _ => nomatch h
  rw [OpcodeRow.Statement, h] at row
  exact row

/-- Settles O4: the sub-decode and `crValue` are inverse to each other, and a command is performed as the CR write that
carries it. -/
theorem commandRegisterSubDecode : Obligations.CommandRegisterSubDecode := by
  intro v i
  refine ⟨⟨crValue_of_mem_crCommands v i, mem_crCommands_of_crValue⟩, fun carried => ⟨opcodeRow_of_crValue carried, ?_⟩⟩
  exact exec_of_crValue carried

/-- Settles O5: each word decodes by evaluation. -/
theorem wordsFromTheTables : Obligations.WordsFromTheTables :=
  ⟨rfl, rfl, rfl, rfl, rfl, rfl, rfl, rfl, rfl, rfl, rfl, rfl, rfl, rfl, rfl⟩

/-! ## Requests that are no operation (U9) -/

/-- Settles O6: the register map ends at offset 0x0F, no width but 8 and 16 and no value wider than its access decodes, and
the three domains are checked. -/
theorem malformedRequestsAreRefused : Obligations.MalformedRequestsAreRefused := by
  intro page off width value b frame content
  refine ⟨?offset, ?registerWidth, ?portWidth, ?value, ?verdict, ?outcome, ?content, rfl⟩
  case offset =>
    intro high
    simp [decode, readRow_of_offset_gt high, writeRow_of_offset_gt high]
  case registerWidth =>
    intro low h8 h16
    obtain ⟨rd, hrd⟩ := readRow_of_offset_le page off low
    obtain ⟨wr, hwr⟩ := writeRow_of_offset_le page off low
    simp [decode, hrd, hwr, decodeWidth_of_bad h8 h16, decodeValue_of_bad_width h8 h16]
  case portWidth =>
    intro h8 h16
    simp [decode, decodeWidth_of_bad h8 h16, decodeValue_of_bad_width h8 h16]
  case value =>
    intro low hw wide
    obtain ⟨wr, hwr⟩ := writeRow_of_offset_le page off low
    simp [decode, hwr, decodeValue_of_too_wide hw wide]
  case verdict =>
    intro bad
    exact if_neg (by simpa [verdictOk] using bad)
  case outcome =>
    intro bad
    exact if_neg (by simpa [txOutcomes] using bad)
  case content =>
    intro long
    exact if_neg (by simpa [maxMemSize] using long)

end Sys2Proof
end

section
/-! # The step and the invariants every step keeps: proofs -/

namespace Sys2Proof.Machine

/-! ## One step -/

/-- Settles O7, by the three ways of the step: nothing pending, an operation, a request that is none. -/
theorem stepRunsTheDecodedOperation : Obligations.StepRunsTheDecodedOperation := by
  intro s request rest
  refine ⟨fun i pending decoded => ?_, fun why pending refused => ?_, fun pending => ?_⟩
  · simp only [step, pending, decoded]
  · simp only [step, pending, refused]
  · simp only [step, pending]

/-- A step waits or performs an operation. -/
theorem step_next {s t : State} (h : step s = .next t) :
    t = s ∨ ∃ i rest, exec i { s with pending := rest } = .next t := by
  unfold step at h
  split at h
  · cases h
    exact .inl rfl
  · next request rest _ =>
    split at h
    · next i _ => exact .inr ⟨i, rest, h⟩
    · cases h

/-- An invariant that does not speak of the model's own fields or the line is kept by every step if every store and every
action of an engine keeps it. -/
theorem step_keeps {P : State → Prop}
    (aside : ∀ (s : State) (o : Output) (d : Nat) (l : Bool) (p : List Request), P s →
      P { s with out := o, draws := d, irqLine := l, pending := p })
    (stored : ∀ {v s u}, P s → Stored v s u → P u) (acted : ∀ {s u}, P s → Acted s u → P u)
    {s t : State} (hs : P s) (h : step s = .next t) : P t := by
  obtain rfl | ⟨i, rest, run⟩ := step_next h
  · exact hs
  have start : P { s with pending := rest } := aside s s.out s.draws s.irqLine rest hs
  have begun : P (opened { s with pending := rest }) := aside s Output.silent s.draws s.irqLine rest hs
  cases exec_next run with
  | result o _ => exact aside _ o _ _ _ start
  | draw v => exact aside _ _ _ _ _ start
  | write v u store => exact aside u _ u.draws _ u.pending (stored begun store)
  | act u action => exact aside u _ u.draws _ u.pending (acted begun action)

/-! ## Packet memory (R40, R71) -/

theorem stored_memFormed {v : Byte} {s u : State} (hs : s.memFormed) (h : Stored v s u) : u.memFormed := by
  cases h with
  | commandRegister _ =>
    rw [crStore_frame]
    exact hs
  | _ => exact hs

theorem acted_memFormed {s u : State} (hs : s.memFormed) (h : Acted s u) : u.memFormed := by
  obtain ⟨wf, within⟩ := hs
  cases h with
  | reset content =>
    exact ⟨Memory.wfFrom_ofBytes 0 _, Memory.within_ofBytes 0 _ (by rw [Nat.zero_add]; exact List.length_take_le ..)⟩
  | store frame errs _ _ => exact ⟨writeBytes_wf _ _ _ wf _, writeBytes_within _ _ _ within _⟩
  | portWrite v _ => exact ⟨memWrite_wf _ wf _ _ _, memWrite_within _ within _ _ _⟩
  | complete _ _ _ | refuse _ _ | overflow | portRead _ _ => exact ⟨wf, within⟩

/-- Settles O50: bytes are written at translated addresses only, and a reset cuts its content at the array. -/
theorem stepKeepsMemoryFormed : Obligations.StepKeepsMemoryFormed := fun _ _ hs h =>
  step_keeps (P := State.memFormed) (fun _ _ _ _ _ hs => hs) stored_memFormed acted_memFormed hs h

/-! ## The interrupt line (R344, R345) -/

/-- A CR write calls the interrupt sink at its end only: what a trigger emits is a frame. -/
theorem crStore_sinkEvents (v : Byte) (s : State) : sinkEvents (crStore v s).out = sinkEvents s.out := by
  unfold crStore
  obtain ⟨_, h⟩ | ⟨_, h⟩ := crTrigger_cases s.cr.txPacket v (crIssue (decodeRdma s.cr.rdmaCmd) v (crFields v s))
  · rw [h, sinkEvents, txTrigger_out, crIssue_crFields_out, List.filter_append]
    exact List.append_nil _
  · rw [h, crIssue_crFields_out]

theorem crStore_irqLine (v : Byte) (s : State) : (crStore v s).irqLine = s.irqLine := by
  rw [crStore_frame]

/-- Until the update of the line a register write leaves the line alone and does not call the sink. -/
theorem stored_line {v : Byte} {s u : State} (h : Stored v s u) :
    u.irqLine = s.irqLine ∧ sinkEvents u.out = sinkEvents s.out := by
  cases h with
  | commandRegister _ => exact ⟨crStore_irqLine v s, crStore_sinkEvents v s⟩
  | _ => exact ⟨rfl, rfl⟩

/-- Neither do the engines and the reset. -/
theorem acted_line {s u : State} (silent : s.out = Output.silent) (h : Acted s u) :
    u.irqLine = s.irqLine ∧ sinkEvents u.out = [] := by
  cases h with
  | portRead v _ => exact ⟨rfl, rfl⟩
  | reset _ | complete _ _ _ | refuse _ _ | overflow | store _ _ _ _ | portWrite _ _ => exact ⟨rfl, congrArg sinkEvents silent⟩

/-- The update of the line at the end of an operation that left it alone until then. -/
theorem irqUpdate_settles {s u : State} (line : u.irqLine = s.irqLine) (uncalled : sinkEvents u.out = []) :
    (irqUpdate u).lineSettled ∧ sinkEvents (irqUpdate u).out =
      if (irqUpdate u).irqLine = s.irqLine then [] else [.irq (irqUpdate u).irqLine] := by
  refine ⟨irqUpdate_lineSettled u, ?_⟩
  rw [irqUpdate_sinkEvents, uncalled, line]
  rfl

/-- Settles O51: an operation leaves the line alone, or it ends with the update of the line. -/
theorem everyOperationSettlesTheLine : Obligations.EveryOperationSettlesTheLine := by
  intro i s t settled h
  cases exec_next h with
  | result o empty =>
    refine ⟨settled, ?_⟩
    rw [if_pos rfl, sinkEvents, empty]
    rfl
  | draw v => exact ⟨settled, (if_pos rfl).symm⟩
  | write v u store =>
    obtain ⟨line, sink⟩ := stored_line store
    exact irqUpdate_settles line sink
  | act u action =>
    obtain ⟨line, sink⟩ := acted_line rfl action
    exact irqUpdate_settles line sink

/-! ## The remote-DMA engine (R301, R306) -/

/-- The engine under the class `c`: it moves in the direction of the class with bytes left, and nothing is left otherwise. -/
abbrev EngineFormed (c : RdmaClass) (s : State) : Prop :=
  (s.rdmaState = .reading → c = .read ∧ s.rdmaRemaining ≠ 0#16) ∧
    (s.rdmaState = .writing → c = .write ∧ s.rdmaRemaining ≠ 0#16) ∧
    (rdmaActive s.rdmaState = false → s.rdmaRemaining = 0#16)

theorem rdmaFormed_iff (s : State) :
    s.rdmaFormed ↔ EngineFormed (decodeRdma s.cr.rdmaCmd) s ∧ (s.cr.stop = true → s.rdmaState = .idle) := by
  simp only [State.rdmaFormed, EngineFormed, and_assoc]

/-- An engine at rest has nothing left, under any class. -/
theorem engineFormed_of_resting (c : RdmaClass) {s : State} (resting : rdmaActive s.rdmaState = false)
    (empty : s.rdmaRemaining = 0#16) : EngineFormed c s :=
  ⟨fun h => by simp [rdmaActive, h] at resting, fun h => by simp [rdmaActive, h] at resting, fun _ => empty⟩

/-- An engine that moves has bytes left. -/
theorem engineFormed_of_moving {c : RdmaClass} {s : State}
    (moving : s.rdmaState = .reading ∧ c = .read ∨ s.rdmaState = .writing ∧ c = .write)
    (left : s.rdmaRemaining ≠ 0#16) : EngineFormed c s := by
  obtain ⟨state, rfl⟩ | ⟨state, rfl⟩ := moving
  · simp [EngineFormed, state, left, rdmaActive]
  · simp [EngineFormed, state, left, rdmaActive]

/-- An engine that is at rest, or moves under the class `c`, is formed under any class of which that holds. -/
theorem engineFormed_of_active_eq {c c' : RdmaClass} {s : State} (hs : EngineFormed c s)
    (same : rdmaActive s.rdmaState = true → c = c') : EngineFormed c' s := by
  cases active : rdmaActive s.rdmaState with
  | false => exact engineFormed_of_resting c' active (hs.2.2 active)
  | true => exact same active ▸ hs

/-- A start moves in the direction of its command, or completes at once (R302, R303). -/
theorem rdmaStart_engineFormed {c : RdmaClass} {moving : RdmaState} (s : State)
    (direction : moving = .reading ∧ c = .read ∨ moving = .writing ∧ c = .write) :
    EngineFormed c (rdmaStart moving s) := by
  by_cases empty : s.remoteBytes = 0#16
  · exact engineFormed_of_resting c (by simp [rdmaStart, empty, rdmaActive]) empty
  · refine engineFormed_of_moving ?_ empty
    simpa [rdmaStart, empty] using direction

/-- Issuing a command leaves the engine formed under the new class (R301). -/
theorem rdmaIssue_engineFormed {oldClass : RdmaClass} (newClass : RdmaClass) {s : State} (hs : EngineFormed oldClass s) :
    EngineFormed newClass (rdmaIssue oldClass newClass s) := by
  cases newClass with
  | read =>
    rw [rdmaIssue]
    split
    · exact rdmaStart_engineFormed s (.inl ⟨rfl, rfl⟩)
    · next kept => exact engineFormed_of_active_eq hs fun _ => by simp only [not_or, not_not] at kept; exact kept.1.symm
  | write =>
    rw [rdmaIssue]
    split
    · exact rdmaStart_engineFormed s (.inr ⟨rfl, rfl⟩)
    · next kept => exact engineFormed_of_active_eq hs fun _ => by simp only [not_or, not_not] at kept; exact kept.1.symm
  | abort =>
    rw [rdmaIssue]
    split
    · exact engineFormed_of_resting _ rfl rfl
    · next kept => exact engineFormed_of_active_eq hs fun active => absurd (.inr active) kept
  | send =>
    rw [rdmaIssue]
    split
    · exact engineFormed_of_resting _ rfl rfl
    · next kept => exact engineFormed_of_active_eq hs fun active => absurd (.inr active) kept

/-- The fields the engine's invariant speaks of. -/
theorem crStore_rdmaFormed (v : Byte) {s : State} (hs : s.rdmaFormed) : (crStore v s).rdmaFormed := by
  rw [rdmaFormed_iff] at hs ⊢
  obtain ⟨engine, _⟩ := hs
  cases stop : stpBit v with
  | true =>
    rw [crStore_of_stop stop, crFields_eq, stop]
    exact ⟨engineFormed_of_resting _ rfl rfl, fun _ => rfl⟩
  | false =>
    have cr := crStore_cr v s
    rw [crStore_of_going stop, cr, stop]
    exact ⟨rdmaIssue_engineFormed _ engine, nofun⟩

theorem stored_rdmaFormed {v : Byte} {s u : State} (hs : s.rdmaFormed) (h : Stored v s u) : u.rdmaFormed := by
  cases h with
  | commandRegister _ => exact crStore_rdmaFormed v hs
  | _ => exact hs

/-- An access that takes the last bytes leaves the engine idle, any other leaves it moving (R310). -/
theorem portAdvance_rdmaFormed (n : Nat) {s : State} (hs : s.rdmaFormed) (active : s.transferring) :
    (portAdvance n s).rdmaFormed := by
  rw [rdmaFormed_iff] at hs ⊢
  obtain ⟨⟨reading, writing, _⟩, stopped⟩ := hs
  have going : s.cr.stop ≠ true := fun stop => by simp [State.transferring, stopped stop] at active
  refine ⟨?_, fun stop => absurd stop going⟩
  by_cases last : s.rdmaRemaining - BitVec.ofNat 16 n = 0#16
  · exact engineFormed_of_resting _ (by simp [last, rdmaActive]) last
  · refine engineFormed_of_moving ?_ last
    rw [portAdvance_rdmaState, if_neg last]
    exact active.imp (fun h => ⟨h, (reading h).1⟩) (fun h => ⟨h, (writing h).1⟩)

theorem acted_rdmaFormed {s u : State} (hs : s.rdmaFormed) (h : Acted s u) : u.rdmaFormed := by
  cases h with
  | reset content => exact ⟨nofun, nofun, fun _ => rfl, fun _ => rfl⟩
  | portRead v reading => exact portAdvance_rdmaFormed (portCount s) hs (.inl reading)
  | portWrite v writing => exact portAdvance_rdmaFormed (portCount s) hs (.inr writing)
  | complete _ _ _ | refuse _ _ | overflow | store _ _ _ _ => exact hs

/-- Settles O52: a CR write stops the engine or leaves it formed under the class of its command, and a data-port access
leaves it moving until the last byte. -/
theorem stepKeepsRemoteDmaFormed : Obligations.StepKeepsRemoteDmaFormed := fun _ _ hs h =>
  step_keeps (P := State.rdmaFormed) (fun _ _ _ _ _ hs => hs) stored_rdmaFormed acted_rdmaFormed hs h

/-! ## The transmit engine (R273, R275) -/

/-- TSR after a CR write: cleared by a trigger, otherwise kept (R273). -/
theorem crStore_tsr (v : Byte) (s : State) :
    (crStore v s).tsr = if (crStore v s).cr.txPacket && !s.cr.txPacket then 0x00#8 else s.tsr := by
  unfold crStore
  obtain ⟨hc, h⟩ | ⟨hc, h⟩ :=
    crTrigger_cases s.cr.txPacket v (crIssue (decodeRdma s.cr.rdmaCmd) v (crFields v s))
  · have fresh : s.cr.txPacket = false := by
      simp only [Bool.and_eq_true, Bool.not_eq_true'] at hc
      exact hc.2
    rw [h, txTrigger_tsr, txTrigger_cr, fresh]
    rfl
  · rw [h, crIssue_crFields_tsr, crIssue_cr, if_neg]
    cases s.cr.txPacket <;> simp

theorem crStore_txFormed (v : Byte) {s : State} (hs : s.txFormed) : (crStore v s).txFormed := by
  obtain ⟨pending, outcome, _⟩ := hs
  refine ⟨fun busy => ?_, ?_, fun stop => ?_⟩
  · rw [crStore_tsr, busy]
    cases before : s.cr.txPacket with
    | true => exact pending before
    | false => rfl
  · rw [crStore_tsr]
    split
    · exact .inl rfl
    · exact outcome
  · rw [crStore_cr] at stop ⊢
    simp only at stop ⊢
    rw [stop]
    rfl

theorem stored_txFormed {v : Byte} {s u : State} (hs : s.txFormed) (h : Stored v s u) : u.txFormed := by
  cases h with
  | commandRegister _ => exact crStore_txFormed v hs
  | _ => exact hs

/-- R276: every outcome that may be reported is one of the seven. -/
theorem txOutcomes_of_allowed {tcr outcome : Byte} (h : outcomeAllowed tcr outcome = true) :
    txOutcomes.contains outcome = true := by
  unfold outcomeAllowed at h
  split at h
  · rw [eq_of_beq h]
    decide
  · exact h

theorem acted_txFormed {s u : State} (hs : s.txFormed) (h : Acted s u) : u.txFormed := by
  cases h with
  | reset content => exact ⟨nofun, .inl rfl, fun _ => rfl⟩
  | complete outcome _ allowed => exact ⟨nofun, .inr (txOutcomes_of_allowed allowed), fun _ => rfl⟩
  | refuse _ _ | overflow | store _ _ _ _ | portRead _ _ | portWrite _ _ => exact hs

/-- Settles O53: a trigger clears TSR as it makes a transmission pending, a completion reports as it ends one, a stop
cancels it. -/
theorem stepKeepsTransmitFormed : Obligations.StepKeepsTransmitFormed := fun _ _ hs h =>
  step_keeps (P := State.txFormed) (fun _ _ _ _ _ hs => hs) stored_txFormed acted_txFormed hs h

/-! ## Reserved and never-set bits (R111, U10) -/

/-- ISR after issuing a command: as it was, or with `rdma_done` (R303). -/
theorem rdmaIssue_isr (oldClass newClass : RdmaClass) (s : State) :
    (rdmaIssue oldClass newClass s).isr = s.isr ∨ (rdmaIssue oldClass newClass s).isr = s.isr ||| isrRdmaDone := by
  obtain h | ⟨_, h⟩ | ⟨_, h⟩ | ⟨_, h⟩ := rdmaIssue_cases oldClass newClass s <;> rw [h]
  · exact .inl rfl
  · rw [rdmaStart_isr]
    exact (ite_eq_or_eq ..).symm
  · rw [rdmaStart_isr]
    exact (ite_eq_or_eq ..).symm
  · exact .inl rfl

/-- ISR after a CR write: as it was, or with the flag of the reset or of the remote DMA. -/
theorem crStore_isr (v : Byte) (s : State) :
    ∃ flag ∈ [0x00#8, 0x40#8, 0x80#8], (crStore v s).isr = s.isr ||| flag := by
  cases stop : stpBit v with
  | true => exact ⟨0x80#8, by decide, crStore_isr_of_stop stop s⟩
  | false =>
    rw [crStore_of_going stop]
    obtain kept | done := rdmaIssue_isr (decodeRdma s.cr.rdmaCmd) (decodeRdma (cmdField v)) s
    · exact ⟨0x00#8, by decide, by rw [BitVec.or_zero]; exact kept⟩
    · exact ⟨0x40#8, by decide, done⟩

/-- Setting flags other than bit 5 leaves bit 5 clear (R83). -/
theorem cntOflow_clear_or {isr flag : Byte} (clear : isr &&& 0x20#8 = 0#8) (other : flag &&& 0x20#8 = 0#8) :
    (isr ||| flag) &&& 0x20#8 = 0#8 := by
  rw [BitVec.and_or_distrib_right, clear, other]
  rfl

theorem crStore_reservedClear (v : Byte) {s : State} (hs : s.reservedClear) : (crStore v s).reservedClear := by
  obtain ⟨dcr, tcr, rcr, tsr, rsr, isr, rest⟩ := hs
  obtain ⟨flag, mem, set⟩ := crStore_isr v s
  have other : ∀ flag ∈ [0x00#8, 0x40#8, 0x80#8], flag &&& 0x20#8 = 0#8 := by decide
  have tsr' : (crStore v s).tsr &&& 0x02#8 = 0#8 := by
    rw [crStore_tsr]
    split
    · rfl
    · exact tsr
  have isr' : (crStore v s).isr &&& 0x20#8 = 0#8 := set ▸ cntOflow_clear_or isr (other flag mem)
  rw [crStore_frame]
  exact ⟨dcr, tcr, rcr, tsr', rsr, isr', rest⟩

/-- A mask keeps out what it leaves out (R111). -/
theorem and_mask_and_eq_zero {mask out : Byte} (h : mask &&& out = 0#8) (v : Byte) : v &&& mask &&& out = 0#8 := by
  rw [BitVec.and_assoc, h, BitVec.and_zero]

theorem stored_reservedClear {v : Byte} {s u : State} (hs : s.reservedClear) (h : Stored v s u) : u.reservedClear := by
  cases h with
  | commandRegister _ => exact crStore_reservedClear v hs
  | wrP0Rcr =>
    obtain ⟨dcr, tcr, _, rest⟩ := hs
    exact ⟨dcr, tcr, and_mask_and_eq_zero rfl v, rest⟩
  | wrP0Tcr =>
    obtain ⟨dcr, _, rest⟩ := hs
    exact ⟨dcr, and_mask_and_eq_zero rfl v, rest⟩
  | wrP0Dcr =>
    obtain ⟨_, rest⟩ := hs
    exact ⟨and_mask_and_eq_zero rfl v, rest⟩
  | wrP0Isr =>
    obtain ⟨dcr, tcr, rcr, tsr, rsr, isr, rest⟩ := hs
    refine ⟨dcr, tcr, rcr, tsr, rsr, ?_, rest⟩
    rw [w1c, BitVec.and_assoc, BitVec.and_comm (~~~v), ← BitVec.and_assoc, isr, BitVec.zero_and]
  | _ => exact hs

/-- RSR after a delivery has no bit but those of R230 and `rx_ok`. -/
theorem rsr_reserved_of_verdictOk : ∀ {errs : Byte}, verdictOk errs = true → errs &&& 0xF0#8 = 0#8 := by
  decide

/-- No outcome has the reserved bit of TSR (R276). -/
theorem tsr_reserved_of_outcome : ∀ {outcome : Byte}, txOutcomes.contains outcome = true → outcome &&& 0x02#8 = 0#8 := by
  decide

theorem acted_reservedClear {s u : State} (hs : s.reservedClear) (h : Acted s u) : u.reservedClear := by
  obtain ⟨dcr, tcr, rcr, tsr, rsr, isr, rest⟩ := hs
  cases h with
  | reset content =>
    have flags : (hardReset content s).isr &&& 0x20#8 = 0#8 := by
      rw [hardReset_isr]
      split <;> rfl
    exact ⟨BitVec.zero_and, BitVec.zero_and, BitVec.zero_and, BitVec.zero_and, BitVec.zero_and, flags, rfl, rfl, rfl⟩
  | complete outcome _ allowed =>
    refine ⟨dcr, tcr, rcr, tsr_reserved_of_outcome (txOutcomes_of_allowed allowed), rsr, cntOflow_clear_or isr ?_, rest⟩
    split <;> rfl
  | refuse errs domain =>
    exact ⟨dcr, tcr, rcr, tsr, rsr_reserved_of_verdictOk domain, cntOflow_clear_or isr rfl, rest⟩
  | overflow => exact ⟨dcr, tcr, rcr, tsr, rsr, cntOflow_clear_or isr rfl, rest⟩
  | store frame errs domain _ =>
    refine ⟨dcr, tcr, rcr, tsr, ?_, cntOflow_clear_or isr ?_, rest⟩
    · rw [rxStore_rsr, rxStatus]
      split
      · rfl
      · exact rsr_reserved_of_verdictOk domain
    · split <;> rfl
  | portRead v _ =>
    refine ⟨dcr, tcr, rcr, tsr, rsr, ?_, rest⟩
    rw [portAdvance_isr]
    split
    · exact cntOflow_clear_or isr rfl
    · exact isr
  | portWrite v _ =>
    refine ⟨dcr, tcr, rcr, tsr, rsr, ?_, rest⟩
    rw [portAdvance_isr]
    split
    · exact cntOflow_clear_or isr rfl
    · exact isr

/-- Settles O54: the masks of R111 keep reserved bits out, and no flag, outcome or verdict has one. -/
theorem stepKeepsReservedBitsClear : Obligations.StepKeepsReservedBitsClear := fun _ _ hs h =>
  step_keeps (P := State.reservedClear) (fun _ _ _ _ _ hs => hs) stored_reservedClear acted_reservedClear hs h

end Sys2Proof.Machine
end

section
/-! # The register bank (spec/40_register_bank.md): proofs -/

namespace Sys2Proof.Machine

/-! ## Register reads (R113, R130) -/

/-- A register read returns the byte, with a high byte of 0 at 16 bits (R113). -/
theorem readResult_word (r : Byte) : readResult r .word = .word (0x00#8 ++ r) :=
  congrArg HostVal.word (BitVec.setWidth_eq_append (by decide))

theorem regRead_byte (r : Byte) (s : State) : regRead r .byte s = .next (answered (.byte r) s) := rfl

theorem regRead_word (r : Byte) (s : State) : regRead r .word s = .next (answered (.word (0x00#8 ++ r)) s) := by
  rw [regRead, readResult_word, done]

/-- Settles O8: each row is the register read of its register, presented at the width of the access. -/
theorem page0ReadsReturnTheirRegister : Obligations.Page0ReadsReturnTheirRegister := by
  intro w s shown
  have read (r : Byte) : regRead r w s = .next (answered (shown r) s) := by
    cases w with
    | byte => exact regRead_byte r s
    | word => exact regRead_word r s
  exact ⟨read _, read _, read _, read _, read _, read _, read _, read _, read _, read _, read _, read _, read _, read _, read _⟩

/-- Settles O9, likewise. -/
theorem page1And2ReadsReturnTheirRegister : Obligations.Page1And2ReadsReturnTheirRegister := by
  intro w s shown
  have read (r : Byte) : regRead r w s = .next (answered (shown r) s) := by
    cases w with
    | byte => exact regRead_byte r s
    | word => exact regRead_word r s
  exact ⟨read _, read _, read _, read _, read _, read _, read _, read _, read _, read _, read _, read _, read _, read _, read _,
    read _, read _, read _, read _, read _, read _, read _, read _, read _, read _, read _⟩

/-- Settles O10: every row of the list is the draw of R180, presented at the width of the access. -/
theorem undefinedPositionsReadAFreeValue : Obligations.UndefinedPositionsReadAFreeValue := by
  intro w s row mem free
  have draws : exec (row w) s = regReadDraw w s := by fin_cases mem <;> rfl
  rw [draws]
  cases w with
  | byte => rfl
  | word =>
    rw [regReadDraw, readResult_word]
    rfl

/-- The fields of CR stand where R108 puts them. -/
theorem crByte_fields (c : CommandReg) :
    (crByte c).getLsbD 0 = c.stop ∧ (crByte c).getLsbD 1 = c.start ∧ (crByte c).getLsbD 2 = c.txPacket ∧
      (crByte c).extractLsb' 3 3 = c.rdmaCmd ∧ (crByte c).extractLsb' 6 2 = c.pgsel := by
  have fields : ∀ (stop start txPacket : Bool) (rdmaCmd : BitVec 3) (pgsel : BitVec 2),
      let v := crByte ⟨stop, start, txPacket, rdmaCmd, pgsel⟩
      v.getLsbD 0 = stop ∧ v.getLsbD 1 = start ∧ v.getLsbD 2 = txPacket ∧ v.extractLsb' 3 3 = rdmaCmd ∧
        v.extractLsb' 6 2 = pgsel := by decide
  exact fields ..

/-- Settles O11: the row is the register read of CR as a byte. -/
theorem commandRegisterReadsBack : Obligations.CommandRegisterReadsBack := by
  intro w s
  refine ⟨crByte s.cr, ?_, crByte_fields s.cr⟩
  cases w with
  | byte => exact regRead_byte _ s
  | word => exact regRead_word _ s

/-- The rows of a read page: each returns a byte, and draws at most. -/
abbrev Answering (row : Width → Instr) : Prop :=
  ∀ (w : Width) (s : State), ∃ (r : Byte) (draws : Nat),
    exec (row w) s = .next { s with out := ⟨some (readResult r w), []⟩, draws := draws }

theorem readPage0_answers {off : Nat} {row : Width → Instr} (h : readPage0 off = some row) : Answering row := by
  unfold readPage0 at h
  split at h <;> cases h <;> exact fun _ _ => ⟨_, _, rfl⟩

theorem readPage1_answers {off : Nat} {row : Width → Instr} (h : readPage1 off = some row) : Answering row := by
  unfold readPage1 at h
  split at h <;> cases h <;> exact fun _ _ => ⟨_, _, rfl⟩

theorem readPage2_answers {off : Nat} {row : Width → Instr} (h : readPage2 off = some row) : Answering row := by
  unfold readPage2 at h
  split at h <;> cases h <;> exact fun _ _ => ⟨_, _, rfl⟩

theorem readPage3_answers {off : Nat} {row : Width → Instr} (h : readPage3 off = some row) : Answering row := by
  unfold readPage3 at h
  split at h <;> cases h <;> exact fun _ _ => ⟨_, _, rfl⟩

theorem readRow_answers {page : BitVec 2} {off : Nat} {row : Width → Instr} (h : readRow page off = some row) :
    Answering row := by
  unfold readRow at h
  split at h
  · cases h
    exact fun _ _ => ⟨_, _, rfl⟩
  · obtain rfl | rfl | rfl | rfl := page_cases page
    · exact readPage0_answers h
    · exact readPage1_answers h
    · exact readPage2_answers h
    · exact readPage3_answers h

/-- Settles O12: what is presented as a register read is RD_CR or an entry of a read page. -/
theorem registerReadsChangeNothing : Obligations.RegisterReadsChangeNothing := by
  intro i s off width h
  have read {row : Width → Instr} {w : Width} {o : Nat} (answers : Answering row) (bus : busRead o w = .regRead off width) :
      ∃ (r : Byte) (draws : Nat), exec (row w) s = .next { s with
        out := ⟨some (if width = 8 then .byte r else .word (0#8 ++ r)), []⟩, draws := draws } := by
    obtain ⟨r, draws, run⟩ := answers w s
    refine ⟨r, draws, ?_⟩
    cases w with
    | byte =>
      cases bus
      exact run
    | word =>
      cases bus
      rw [run, readResult_word]
      rfl
  have noWrite {v : HostVal} {o : Nat} : busWrite o v ≠ .regRead off width := by cases v <;> nofun
  cases tableForm i with
  | rdCr w => exact read (row := .rdCr) (fun _ _ => ⟨_, _, rfl⟩) h
  | wrCr v => exact absurd h noWrite
  | read page o row w entry spec => exact read (readRow_answers entry) ((spec.2 w).1.symm.trans h)
  | write page o row v entry spec => exact absurd ((spec.2 v).1.symm.trans h) noWrite
  | command _ v carried enc => exact absurd (enc.symm.trans h) noWrite
  | drd w => cases w <;> nomatch h
  | dwr v => cases v <;> nomatch h
  | rx _ _ | txdone _ | hreset _ => nomatch h

/-! ## Register writes (R131) -/

/-- Settles O13: each row is its store between the opening of the operation and the update of the line. -/
theorem page0WritesStoreTheirRegister : Obligations.Page0WritesStoreTheirRegister := fun _ _ =>
  ⟨rfl, rfl, rfl, rfl, rfl, rfl, rfl, rfl, rfl, rfl, rfl, rfl, rfl⟩

/-- Settles O16, likewise. -/
theorem page1And2WritesStoreTheirRegister : Obligations.Page1And2WritesStoreTheirRegister := fun _ _ =>
  ⟨rfl, rfl, rfl, rfl, rfl, rfl, rfl, rfl, rfl, rfl, rfl, rfl, rfl, rfl, rfl, rfl, rfl, rfl, rfl⟩

/-- Settles O17: a settled line stays as it is where nothing is stored. -/
theorem ignoredWritesChangeNothing : Obligations.IgnoredWritesChangeNothing := by
  intro v s row settled mem
  have ignores : exec (row v) s = regWrite noStore v s := by fin_cases mem <;> rfl
  rw [ignores]
  exact regWrite_of_lineSettled (store := noStore) settled

/-- Clearing flags raises no interrupt condition (R154). -/
theorem lineActive_w1c {isr imr v : Byte} (active : lineActive (w1c isr v) imr = true) : lineActive isr imr = true := by
  rw [lineActive_iff] at active ⊢
  intro zero
  apply active
  rw [w1c, BitVec.and_assoc, BitVec.and_comm (~~~v), ← BitVec.and_assoc, zero, BitVec.zero_and]

/-- What write-1-to-clear leaves of a flag (R154). -/
theorem getLsbD_w1c (isr v : Byte) (k : Nat) : (w1c isr v).getLsbD k = (isr.getLsbD k && !v.getLsbD k) := by
  rw [w1c, BitVec.getLsbD_and, BitVec.getLsbD_not]
  by_cases hk : k < 8
  · simp [hk]
  · simp [BitVec.getLsbD_of_ge isr k (Nat.le_of_not_lt hk)]

/-- A line that does not rise has at most one event, its fall (R344). -/
theorem irqEvents_of_falling {before after : Bool} (keeps : after = true → before = true) :
    irqEvents before after = if before = true ∧ after = false then [.irq false] else [] := by
  cases after with
  | false => cases before <;> rfl
  | true => rw [keeps rfl]; rfl

theorem lineActive_eq_false_iff (isr imr : Byte) : lineActive isr imr = false ↔ isr &&& imr = 0x00#8 := by
  simp [lineActive]

/-- Settles O14: the flags left are those not named, so the line does not rise, and it falls where none of them is enabled. -/
theorem isrWriteClearsTheNamedFlags : Obligations.IsrWriteClearsTheNamedFlags := by
  intro v s settled
  have keeps : lineActive (w1c s.isr (low8 v)) s.imr = true → s.irqLine = true := fun active => by
    rw [settled]
    exact lineActive_w1c active
  have line : lineActive (w1c s.isr (low8 v)) s.imr = (s.irqLine && w1c s.isr (low8 v) &&& s.imr != 0#8) := by
    change _ = (s.irqLine && lineActive (w1c s.isr (low8 v)) s.imr)
    rw [Bool.and_eq_right_iff_imp.mpr keeps]
  have events := irqEvents_of_falling keeps
  simp only [lineActive_eq_false_iff] at events
  refine ⟨_, rfl, getLsbD_w1c s.isr (low8 v), congrArg (Output.mk none) events, ?_⟩
  exact congrArg (fun l => { irqUpdate { opened s with isr := w1c s.isr (low8 v) } with irqLine := l }) line

/-- A byte is not 0 exactly if one of its bits is set. -/
theorem ne_zero_iff_getLsbD (b : Byte) : b ≠ 0x00#8 ↔ ∃ k, k < 8 ∧ b.getLsbD k = true := by
  constructor
  · intro h
    by_contra none
    push Not at none
    refine h (BitVec.eq_of_getLsbD_eq fun k hk => ?_)
    simpa using none k hk
  · rintro ⟨k, _, set⟩ rfl
    simp at set

/-- Settles O15: all eight bits are stored, and the line function is evaluated with the new mask. -/
theorem imrWriteDrivesTheLine : Obligations.ImrWriteDrivesTheLine := by
  intro v s
  have full : low8 v &&& imrMask = low8 v := BitVec.and_allOnes
  have run : exec (.wrP0Imr v) s = .next (irqUpdate { opened s with imr := low8 v }) := by
    rw [← full]
    rfl
  refine ⟨_, run, rfl, ?_, rfl⟩
  change lineActive s.isr (low8 v) = true ↔ _
  rw [lineActive_iff, ne_zero_iff_getLsbD]
  simp only [BitVec.getLsbD_and, Bool.and_eq_true]

/-- A value read back, as the statements present it. -/
theorem readResult_eq {r b : Byte} (h : r = b) (w : Width) : some (readResult r w) = some (match w with
    | .byte => HostVal.byte b
    | .word => .word (0x00#8 ++ b)) := by
  subst h
  cases w with
  | byte => rfl
  | word => exact congrArg some (readResult_word r)

@[simp] theorem highByte_withHigh (x : Word) (b : Byte) : highByte (withHigh x b) = b :=
  BitVec.extractLsb'_append_eq_left

@[simp] theorem lowByte_withLow (x : Word) (b : Byte) : lowByte (withLow x b) = b :=
  BitVec.extractLsb'_append_eq_right

/-- Settles O18: the read returns the register as the write left it, which the update of the line does not touch. -/
theorem writeThenReadReturnsTheDefinedBits : Obligations.WriteThenReadReturnsTheDefinedBits := by
  intro v w s wr rd mask mem
  have full (b : Byte) : b &&& 0xFF#8 = b := BitVec.and_allOnes
  generalize row : (wr, rd, mask) = entry at mem
  fin_cases mem <;> cases row <;> refine ⟨_, rfl, readResult_eq ?_ w⟩ <;>
    simp [full, rcrMask, tcrMask, dcrMask, imrMask]

end Sys2Proof.Machine
end

section
/-! # The command register and the commands it carries (spec/41, 43, 44): proofs -/

namespace Sys2Proof.Machine

/-! ## Which CR writes are steps (R305) -/

/-- R109, by class. -/
theorem decodeRdma_eq_read_iff (cmd : BitVec 3) : decodeRdma cmd = .read ↔ cmd = 1#3 := by
  revert cmd
  decide

theorem decodeRdma_eq_write_iff (cmd : BitVec 3) : decodeRdma cmd = .write ↔ cmd = 2#3 := by
  revert cmd
  decide

theorem decodeRdma_eq_send_iff (cmd : BitVec 3) : decodeRdma cmd = .send ↔ cmd = 3#3 := by
  revert cmd
  decide

/-- R305 refuses exactly the writes that are no step. -/
theorem sendRefused_eq_false_iff (v : Byte) (s : State) : sendRefused v s = false ↔ crPerformed v s := by
  have mode : s.cfg.sendMode ≠ .refuse ↔ s.cfg.sendMode = .inert := by cases s.cfg.sendMode <;> simp
  rw [← Bool.not_eq_true, sendRefused]
  simp only [Bool.and_eq_true, Bool.not_eq_true', beq_iff_eq, decodeRdma_eq_send_iff]
  rw [crPerformed, ← mode, ← Bool.not_eq_false (v.getLsbD 0)]
  simp only [stpBit, cmdField, ne_eq]
  tauto

/-- A CR write that is a step stores and then updates the interrupt line. -/
theorem exec_of_writesCr_performed {i : Instr} {v : Byte} {s : State} (writes : writesCr i v) (performed : crPerformed v s) :
    exec i s = .next (irqUpdate (crStore v (opened s))) := by
  obtain ⟨hv, rfl, run⟩ := exec_of_writesCr writes s
  rw [run, crWrite_of_performed ((sendRefused_eq_false_iff _ s).mpr performed)]

/-- The CR write an operation with a next state has performed. -/
theorem next_of_writesCr {i : Instr} {v : Byte} {s t : State} (writes : writesCr i v) (h : exec i s = .next t) :
    t = irqUpdate (crStore v (opened s)) := by
  obtain ⟨hv, rfl, run⟩ := exec_of_writesCr writes s
  exact crWrite_next (run.symm.trans h)

/-! ## What is stored (R201) -/

/-- Settles O19: CR takes the value's fields, of CR.START and CR.PAGE in particular. -/
theorem commandRegisterWriteStoresEveryField : Obligations.CommandRegisterWriteStoresEveryField := by
  have cr (v : Byte) (s : State) : (irqUpdate (crStore v (opened s))).cr =
      ⟨stpBit v, staBit v, !stpBit v && (s.cr.txPacket || (txpBit v && staBit v)), cmdField v, pageField v⟩ :=
    crStore_cr v (opened s)
  refine ⟨?everyField, ?start, ?page⟩
  case everyField =>
    intro i v s writes performed
    refine ⟨_, exec_of_writesCr_performed writes performed, ?_⟩
    rw [cr, Bool.and_comm (txpBit v)]
    exact ⟨rfl, rfl, rfl, rfl, rfl⟩
  case start =>
    intro high stop s performed
    have bits : ∀ (high : BitVec 6) (stop : BitVec 1), staBit (crStartValue high stop) = true ∧
        stpBit (crStartValue high stop) = (stop == 1#1) ∧ (!stpBit (crStartValue high stop)) = (stop == 0#1) := by decide
    obtain ⟨sta, stp, going⟩ := bits high stop
    refine ⟨_, exec_of_writesCr_performed (.inr rfl) performed, ?_⟩
    rw [cr]
    refine ⟨sta, stp, ?_⟩
    rw [running, sta, Bool.true_and]
    exact going
  case page =>
    intro pgsel rest s performed
    refine ⟨_, exec_of_writesCr_performed (.inr rfl) performed, ?_⟩
    rw [cr]
    exact BitVec.extractLsb'_append_eq_left

/-- Settles O20: the store and the update of the line change no more. -/
theorem commandRegisterWriteFrame : Obligations.CommandRegisterWriteFrame := by
  intro i v s t writes h
  rw [next_of_writesCr writes h, crStore_frame]
  rfl

/-- Settles O21: such a write is the soft reset with the other fields stored. -/
theorem stopPerformsTheSoftReset : Obligations.StopPerformsTheSoftReset := by
  intro i v s row stop
  have writes : writesCr i v := row.imp_right fun ⟨rest, hi, hv⟩ => by
    subst hi hv
    rfl
  rw [exec_of_writesCr_performed writes (.inl stop), crStore_of_stop stop, crFields_eq, show stpBit v = true from stop,
    Bool.not_true, Bool.and_false]
  rfl

/-! ## The transmit trigger (R206, R270) -/

/-- A CR write hands over a frame exactly if it makes a transmission pending (R270). -/
theorem crStore_sentFrames (v : Byte) (s : State) : sentFrames (crStore v s).out =
    if (crStore v s).cr.txPacket && !s.cr.txPacket then sentFrames s.out ++ [txFetch s] else sentFrames s.out := by
  unfold crStore
  obtain ⟨hc, h⟩ | ⟨hc, h⟩ :=
    crTrigger_cases s.cr.txPacket v (crIssue (decodeRdma s.cr.rdmaCmd) v (crFields v s))
  · have fresh : s.cr.txPacket = false := by
      simp only [Bool.and_eq_true, Bool.not_eq_true'] at hc
      exact hc.2
    rw [h, txTrigger_cr, fresh, txTrigger_out, crIssue_crFields_out, txFetch_crIssue]
    exact List.filterMap_append
  · rw [h, crIssue_crFields_out, crIssue_cr, if_neg]
    cases s.cr.txPacket <;> simp

/-- A byte of packet memory at a chip address (R71, R72), as the statements write it. -/
theorem readByte_eq (c : Config) (m : Memory) (a : Word) : readByte c m a =
    if c.memStart.toNat ≤ (if c.memWrap = 0 then a.toNat else a.toNat % c.memWrap) ∧
        (if c.memWrap = 0 then a.toNat else a.toNat % c.memWrap) < c.memStart.toNat + c.memSize then
      Memory.read m ((if c.memWrap = 0 then a.toNat else a.toNat % c.memWrap) - c.memStart.toNat)
    else c.sinkByte := by
  unfold readByte chipAddr Params.memEnd
  dsimp only
  generalize (if c.memWrap = 0 then a.toNat else a.toNat % c.memWrap) = a1
  by_cases window : c.memStart.toNat ≤ a1 ∧ a1 < c.memStart.toNat + c.memSize
  · rw [if_pos window, if_pos window]
  · rw [if_neg window, if_neg window]

/-- ISR after a CR write that is no stop: no flag but `rdma_done` can be new. -/
theorem crStore_isr_of_going {v : Byte} (going : stpBit v = false) (s : State) :
    (crStore v s).isr ||| 0x40#8 = s.isr ||| 0x40#8 := by
  rw [crStore_of_going going]
  change (rdmaIssue (decodeRdma s.cr.rdmaCmd) (decodeRdma (cmdField v)) s).isr ||| isrRdmaDone = s.isr ||| isrRdmaDone
  obtain h | h := rdmaIssue_isr (decodeRdma s.cr.rdmaCmd) (decodeRdma (cmdField v)) s
  · rw [h]
  · rw [h, BitVec.or_assoc, BitVec.or_self]

/-- Bits 2:0 of a value that triggers (R206). -/
theorem bits_of_trigger {v : Byte} (h : v &&& 0x07#8 = 0x06#8) : stpBit v = false ∧ staBit v = true ∧ txpBit v = true := by
  have bits (i : Nat) : (v.getLsbD i && (0x07#8).getLsbD i) = (0x06#8).getLsbD i := by rw [← BitVec.getLsbD_and, h]
  exact ⟨by simpa [stpBit] using bits 0, by simpa [staBit] using bits 1, by simpa [txpBit] using bits 2⟩

/-- A CR write with the pattern of CR.XMIT over an idle transmitter makes a transmission pending. -/
theorem crStore_txPacket_of_trigger {v : Byte} {s : State} (value : v &&& 0x07#8 = 0x06#8) :
    (crStore v s).cr.txPacket = true := by
  obtain ⟨stp, sta, txp⟩ := bits_of_trigger value
  rw [crStore_cr, stp, sta, txp]
  simp

/-- Settles O22: the trigger's frame is the fetch of R271 byte for byte, and of ISR only the command issued with it can
change a flag. -/
theorem transmitTriggerHandsOverTheFrame : Obligations.TransmitTriggerHandsOverTheFrame := by
  intro i v s row value idle performed byteAt
  have writes : writesCr i v := row.imp_right fun ⟨high, hi, hv⟩ => by
    subst hi hv
    rfl
  have busy : (crStore v (opened s)).cr.txPacket = true := crStore_txPacket_of_trigger value
  have fresh : ((crStore v (opened s)).cr.txPacket && !(opened s).cr.txPacket) = true := by
    rw [busy, opened_cr, idle]
    rfl
  refine ⟨_, txFetch s, exec_of_writesCr_performed writes performed, ?_, ?_, fun k hk => ?_, busy, ?_, ?_⟩
  · rw [irqUpdate_sentFrames, crStore_sentFrames, if_pos fresh]
    rfl
  · rw [txFetch, List.length_map, List.length_range]
  · rw [txFetch, List.getElem?_map, List.getElem?_range hk, Option.map_some, readByte_eq]
    rfl
  · rw [irqUpdate_tsr, crStore_tsr, if_pos fresh]
  · exact crStore_isr_of_going (bits_of_trigger value).1 (opened s)

/-! ## Remote-DMA commands (R301 to R305) -/

/-- Bits 5:3 and 0 of a value: its command and its stop bit (R108). -/
theorem command_of_mask {v c : Byte} (h : v &&& 0x39#8 = c) : stpBit v = stpBit c ∧ cmdField v = cmdField c := by
  subst h
  constructor
  · simp [stpBit]
  · rw [cmdField, cmdField, BitVec.extractLsb'_and]
    exact BitVec.and_allOnes.symm

/-- A value with such a code, other than that of `send`, is a step of the model (R305). -/
theorem crPerformed_of_code {v : Byte} (code : cmdField v ≠ 3#3) (s : State) : crPerformed v s := .inr (.inl code)

/-- R301: a command that moves data is a start where its class is new or the engine rests. -/
theorem rdmaIssue_eq_rdmaStart {oldClass newClass : RdmaClass} {moving : RdmaState} {s : State}
    (direction : moving = .reading ∧ newClass = .read ∨ moving = .writing ∧ newClass = .write)
    (starts : oldClass ≠ newClass ∨ ¬ s.transferring) : rdmaIssue oldClass newClass s = rdmaStart moving s := by
  have acts : newClass ≠ oldClass ∨ rdmaActive s.rdmaState = false := by
    rwa [← Bool.not_eq_true, rdmaActive_iff, ne_comm]
  obtain ⟨rfl, rfl⟩ | ⟨rfl, rfl⟩ := direction
  · exact if_pos acts
  · exact if_pos acts

/-- R301: a command that moves data does nothing where it repeats the class of the transfer in progress. -/
theorem rdmaIssue_repeated {c : RdmaClass} {s : State} (moves : c = .read ∨ c = .write) (active : s.transferring) :
    rdmaIssue c c s = s := by
  have idle : ¬ (c ≠ c ∨ rdmaActive s.rdmaState = false) := by simp [(rdmaActive_iff s).mpr active]
  obtain rfl | rfl := moves
  · exact if_neg idle
  · exact if_neg idle

/-- R305 under `inert`: an abort in a class of its own. -/
theorem rdmaIssue_send (oldClass : RdmaClass) (s : State) :
    rdmaIssue oldClass .send s = if oldClass ≠ .send ∨ s.transferring then rdmaAbort s else s := by
  simp only [rdmaIssue, rdmaActive_iff, ne_comm (a := RdmaClass.send)]

/-- The start of a transfer (R302, R303), field by field. -/
theorem rdmaStart_spec (moving : RdmaState) (s : State) :
    (rdmaStart moving s).remoteDma = s.remoteStart ∧ (rdmaStart moving s).rdmaRemaining = s.remoteBytes ∧
      (rdmaStart moving s).mem = s.mem ∧
      (s.remoteBytes ≠ 0#16 → (rdmaStart moving s).rdmaState = moving ∧ (rdmaStart moving s).isr = s.isr) ∧
      (s.remoteBytes = 0#16 → (rdmaStart moving s).rdmaState = .idle ∧ (rdmaStart moving s).isr = s.isr ||| 0x40#8) :=
  ⟨rfl, rfl, rfl, fun some => ⟨if_neg some, if_neg some⟩, fun none => ⟨if_pos none, if_pos none⟩⟩

/-- Settles O24: the command's class differs from the old one or the engine rests, so issuing it is the start. -/
theorem remoteDmaCommandStartsATransfer : Obligations.RemoteDmaCommandStartsATransfer := by
  intro i v moving s row value
  have writes : writesCr i v := row.imp_right fun command => by
    obtain ⟨p, x, rfl, rfl⟩ | ⟨p, x, rfl, rfl⟩ := command <;> rfl
  obtain ⟨stp, code, direction, starts⟩ : stpBit v = false ∧ cmdField v ≠ 3#3 ∧
      (moving = .reading ∧ decodeRdma (cmdField v) = .read ∨ moving = .writing ∧ decodeRdma (cmdField v) = .write) ∧
      (decodeRdma s.cr.rdmaCmd ≠ decodeRdma (cmdField v) ∨ ¬ s.transferring) := by
    obtain ⟨mask, dir, other⟩ | ⟨mask, dir, other⟩ := value
    · obtain ⟨stp, cmd⟩ := command_of_mask mask
      rw [cmd]
      exact ⟨stp, by decide, .inl ⟨dir, rfl⟩, other.imp_left (mt (decodeRdma_eq_read_iff _).mp)⟩
    · obtain ⟨stp, cmd⟩ := command_of_mask mask
      rw [cmd]
      exact ⟨stp, by decide, .inr ⟨dir, rfl⟩, other.imp_left (mt (decodeRdma_eq_write_iff _).mp)⟩
  refine ⟨_, exec_of_writesCr_performed writes (crPerformed_of_code code s), ?_⟩
  rw [crStore_of_going stp, opened_cr, rdmaIssue_eq_rdmaStart direction (s := opened s) starts]
  exact rdmaStart_spec moving (opened s)

/-- Settles O25: neither the class changes nor the engine rests, so issuing the command does nothing. -/
theorem repeatedCommandKeepsTheTransfer : Obligations.RepeatedCommandKeepsTheTransfer := by
  intro i v s writes value active
  obtain ⟨stp, code, same, moves⟩ : stpBit v = false ∧ cmdField v ≠ 3#3 ∧ cmdField v = s.cr.rdmaCmd ∧
      (decodeRdma s.cr.rdmaCmd = .read ∨ decodeRdma s.cr.rdmaCmd = .write) := by
    obtain ⟨mask, old⟩ | ⟨mask, old⟩ := value
    · obtain ⟨stp, cmd⟩ := command_of_mask mask
      rw [cmd, old]
      exact ⟨stp, by decide, rfl, .inl rfl⟩
    · obtain ⟨stp, cmd⟩ := command_of_mask mask
      rw [cmd, old]
      exact ⟨stp, by decide, rfl, .inr rfl⟩
  refine ⟨_, exec_of_writesCr_performed writes (crPerformed_of_code code s), ?_⟩
  rw [crStore_of_going stp, same, opened_cr, rdmaIssue_repeated (s := opened s) moves active]
  exact ⟨rfl, rfl, rfl, rfl⟩

/-- Settles O27: the write is refused, or its command is the abort of its own class. -/
theorem sendActsAsItsModeSays : Obligations.SendActsAsItsModeSays := by
  intro i v s row value
  have writes : writesCr i v := row.imp_right fun ⟨p, x, hi, hv⟩ => by
    subst hi hv
    rfl
  obtain ⟨stp, cmd⟩ := command_of_mask value
  have send : decodeRdma (cmdField v) = .send := by
    rw [cmd]
    rfl
  refine ⟨fun refuse => ?_, fun inert => ?_⟩
  · obtain ⟨hv, rfl, run⟩ := exec_of_writesCr writes s
    have refused : sendRefused (low8 hv) s = true := by
      rw [sendRefused, stp, send, refuse]
      rfl
    rw [run, crWrite, if_pos refused]
  · refine ⟨_, exec_of_writesCr_performed writes (.inr (.inr inert)), ?_⟩
    have stored : (irqUpdate (crStore v (opened s))).cr.rdmaCmd = 3#3 := by
      rw [irqUpdate_cr, crStore_cr]
      exact cmd
    refine ⟨stored, ?_⟩
    rw [crStore_of_going stp, send, rdmaIssue_send]
    simp only [ne_eq, decodeRdma_eq_send_iff]
    split
    · next acts =>
      exact ⟨rfl, rfl, rfl, fun _ => ⟨rfl, rfl, rfl⟩,
        fun same resting => absurd acts (not_or.mpr ⟨not_not.mpr same, resting⟩)⟩
    · next idle => exact ⟨rfl, rfl, rfl, fun acts => absurd acts idle, fun _ _ => ⟨rfl, rfl, rfl⟩⟩

end Sys2Proof.Machine
end

section
/-! # The data port (spec/44_remote_dma.md part 3): proofs -/

namespace Sys2Proof.Machine

/-! ## Bytes of a word (R72, R73, R309) -/

/-- Two bytes as a word, low byte at the lower address. -/
theorem zeroExtend_or_shiftLeft (hi lo : Byte) : (lo.zeroExtend 16 ||| (hi.zeroExtend 16 <<< 8) : Word) = hi ++ lo := by
  have h := BitVec.setWidth_append_eq_shiftLeft_setWidth_or (b := hi) (b' := lo) (w'' := 16)
  rw [BitVec.setWidth_eq] at h
  rw [h, BitVec.or_comm]

/-- Memory read one byte at a time: the byte at the address, and above it the byte after it where two are read. -/
theorem memRead_eq {n : Nat} (hn : n = 1 ∨ n = 2) (c : Config) (m : Memory) (a : Word) :
    memRead c m a n = (if n = 2 then readByte c m (a + 1#16) else 0x00#8) ++ readByte c m a := by
  obtain rfl | rfl := hn
  · simpa [memRead] using zeroExtend_or_shiftLeft 0x00#8 (readByte c m a)
  · simpa [memRead] using zeroExtend_or_shiftLeft (readByte c m (a + 1#16)) (readByte c m a)

theorem lowByte_zext16 (v : HostVal) : lowByte (zext16 v) = low8 v := by
  cases v with
  | byte b => simp [lowByte, zext16, low8, BitVec.extractLsb'_setWidth_of_le]
  | word x => rfl

theorem highByte_zext16_byte (b : Byte) : highByte (zext16 (.byte b)) = 0x00#8 := by
  rw [highByte, zext16, BitVec.zeroExtend, BitVec.setWidth_eq_append (by decide)]
  exact BitVec.extractLsb'_append_eq_left

theorem lowByte_shiftRight (v : Word) : lowByte (v >>> 8) = highByte v := by
  apply BitVec.eq_of_getLsbD_eq
  intro k hk
  simp [lowByte, highByte]

/-- `MemWrite` of at most two bytes is a byte-by-byte write at the addresses from the cursor on (R73). -/
theorem memWrite_eq_writeBytes {n : Nat} (hn : n ≤ 2) (c : Config) (m : Memory) (a : Word) (v : Word) :
    memWrite c m a n v = writeBytes c (fun j => a + BitVec.ofNat 16 j) 0 m (List.take n [lowByte v, highByte v]) := by
  match n, hn with
  | 0, _ => rfl
  | 1, _ => simp [memWrite, writeBytes]
  | 2, _ => simp [memWrite, writeBytes, lowByte_shiftRight]

/-! ## One access (R307 to R310) -/

/-- The unit of an access: two bytes in word mode, one in byte mode (R309). -/
abbrev State.portUnit (s : State) : Nat := if s.dcr.getLsbD 0 then 2 else 1

theorem portUnit_pos (s : State) : 0 < s.portUnit := by
  unfold State.portUnit
  split <;> decide

theorem portUnit_le (s : State) : s.portUnit ≤ 2 := by
  unfold State.portUnit
  split <;> decide

/-- An access with bytes left moves one byte or two, and no more than are left. -/
theorem unitCount_cases {s : State} (left : s.rdmaRemaining ≠ 0#16) :
    (unitCount s = 1 ∨ unitCount s = 2) ∧ unitCount s ≤ s.rdmaRemaining.toNat := by
  have pos : s.rdmaRemaining.toNat ≠ 0 := fun zero => left (BitVec.eq_of_toNat_eq zero)
  unfold unitCount
  split <;> omega

/-- The advance, as the statements write it, where no more bytes are moved than are left. -/
theorem portAdvance_eq {n : Nat} {s : State} (h : n ≤ s.rdmaRemaining.toNat) : portAdvance n s = { s with
    remoteDma := s.remoteDma + BitVec.ofNat 16 n
    rdmaRemaining := BitVec.ofNat 16 (s.rdmaRemaining.toNat - n)
    isr := if s.rdmaRemaining.toNat = n then s.isr ||| 0x40#8 else s.isr
    rdmaState := if s.rdmaRemaining.toNat = n then .idle else s.rdmaState } := by
  have bound := s.rdmaRemaining.isLt
  have rest : s.rdmaRemaining - BitVec.ofNat 16 n = BitVec.ofNat 16 (s.rdmaRemaining.toNat - n) := by
    apply BitVec.eq_of_toNat_eq
    simp only [BitVec.toNat_sub, BitVec.toNat_ofNat]
    omega
  have done : s.rdmaRemaining - BitVec.ofNat 16 n = 0#16 ↔ s.rdmaRemaining.toNat = n := by
    rw [rest, ← BitVec.toNat_inj]
    simp only [BitVec.toNat_ofNat]
    omega
  simp only [portAdvance, done]
  rw [rest]
  rfl

/-- A value at the width of a data-port read (R309). -/
theorem portResult_append (hi lo : Byte) (w : Width) : portResult (hi ++ lo) w = match w with
    | .byte => .byte lo
    | .word => .word (hi ++ lo) := by
  cases w with
  | byte => exact congrArg HostVal.byte BitVec.extractLsb'_append_eq_right
  | word => rfl

theorem exec_drd_of_reading {w : Width} {s : State} (reading : s.rdmaState = .reading) :
    exec (.drd w) s = .next (irqUpdate { portAdvance (unitCount s) s with
      out := ⟨some (portResult (memRead s.cfg s.mem s.remoteDma (unitCount s)) w), []⟩ }) :=
  if_neg (not_not.mpr reading)

theorem exec_dwr_of_writing {v : HostVal} {s : State} (writing : s.rdmaState = .writing) :
    exec (.dwr v) s = .next (irqUpdate (portAdvance (unitCount s) { opened s with
      mem := memWrite s.cfg s.mem s.remoteDma (unitCount s) (zext16 v) })) :=
  if_neg (not_not.mpr writing)

/-- Settles O28: the read's value is put together byte by byte, and the rest is the advance. -/
theorem dataReadMovesTheCursor : Obligations.DataReadMovesTheCursor := by
  intro w s reading left byteAt n low high
  obtain ⟨count, fits⟩ := unitCount_cases left
  have atCursor (a : Word) : byteAt a = readByte s.cfg s.mem a := (readByte_eq s.cfg s.mem a).symm
  rw [exec_drd_of_reading reading, portAdvance_eq fits, memRead_eq count, portResult_append, reading]
  simp only [low, high, atCursor]
  rfl

/-- Settles O29: the bytes go one after the other, and the rest is the advance. -/
theorem dataWriteMovesTheCursor : Obligations.DataWriteMovesTheCursor := by
  intro v s writing left n low high stored
  obtain ⟨count, fits⟩ := unitCount_cases left
  have top : highByte (zext16 v) = high := by
    cases v with
    | byte b => exact highByte_zext16_byte b
    | word x => rfl
  have moved : memWrite s.cfg s.mem s.remoteDma n (zext16 v) =
      if n = 2 then writeByte s.cfg stored (s.remoteDma + 1#16) high else stored := by
    rw [memWrite_eq_writeBytes (by omega), lowByte_zext16, top]
    obtain h | h : n = 1 ∨ n = 2 := count
    · rw [h, if_neg (by decide)]
      simp [writeBytes, stored, low]
    · rw [h, if_pos rfl]
      simp [writeBytes, stored, low]
  rw [exec_dwr_of_writing writing, portAdvance_eq (s := { opened s with mem := _ }) fits, moved]
  simp only [opened_rdmaState, writing]
  rfl

/-- R71, as the statements write it. -/
theorem chipAddr_eq_some_iff (c : Config) (a : Word) (k : Nat) :
    let a1 := if c.memWrap = 0 then a.toNat else a.toNat % c.memWrap
    chipAddr c a = some k ↔ c.memStart.toNat ≤ a1 ∧ a1 < c.memStart.toNat + c.memSize ∧ k = a1 - c.memStart.toNat := by
  intro a1
  change (if c.memStart.toNat ≤ a1 ∧ a1 < c.memStart.toNat + c.memSize then some (a1 - c.memStart.toNat) else none) = some k ↔ _
  rw [Option.ite_none_right_eq_some, Option.some_inj, and_assoc, eq_comm (a := k)]

/-- The bytes of an access are those of the value, from its low end on. -/
theorem getElem_wordBytes (v : Word) {n j : Nat} (h : j < (List.take n [lowByte v, highByte v]).length) :
    (List.take n [lowByte v, highByte v])[j] = v.extractLsb' (8 * j) 8 := by
  have hj : j < 2 := Nat.lt_of_lt_of_le h (List.length_take_le' ..)
  obtain rfl | rfl : j = 0 ∨ j = 1 := by omega
  · rw [List.getElem_take]
    rfl
  · rw [List.getElem_take]
    rfl

/-- Settles O30: the write is byte by byte, each byte at the cell its own address translates to. -/
theorem dataWriteStoresOnlyItsBytes : Obligations.DataWriteStoresOnlyItsBytes := by
  refine ⟨chipAddr_eq_some_iff, fun v s t k writing h => ?_⟩
  rw [exec_dwr_of_writing writing] at h
  cases h
  have le : unitCount s ≤ 2 := portCount_le s
  have length : (List.take (unitCount s) [lowByte (zext16 v), highByte (zext16 v)]).length = unitCount s :=
    List.length_take_of_le le
  have stored : (irqUpdate (portAdvance (unitCount s) { opened s with
      mem := memWrite s.cfg s.mem s.remoteDma (unitCount s) (zext16 v) })).mem =
      writeBytes s.cfg (fun j => s.remoteDma + BitVec.ofNat 16 j) 0 s.mem
        (List.take (unitCount s) [lowByte (zext16 v), highByte (zext16 v)]) := memWrite_eq_writeBytes le ..
  rw [stored]
  refine ⟨fun other => read_writeBytes_of_ne (fun j hj => ?_) s.mem, fun formed j hj here last => ?_⟩
  · rw [Nat.zero_add]
    exact other j (by rwa [length] at hj)
  · rw [← getElem_wordBytes (zext16 v) (by rwa [length])]
    refine read_writeBytes_self j _ (by rwa [Nat.zero_add]) (fun j' later hj' => ?_) formed.1
    rw [Nat.zero_add]
    exact last j' later (by rwa [length] at hj')

/-- Settles O31: outside its state the port answers without touching the engine. -/
theorem dataPortOutsideATransferMovesNothing : Obligations.DataPortOutsideATransferMovesNothing := by
  refine fun s => ⟨fun v resting => if_pos resting, fun w resting => ⟨_, if_pos resting, ?_⟩⟩
  cases w <;> rfl

/-! ## Whole transfers (R312) -/

/-- Accesses that asked for `n` bytes have moved them, cut down to what was left: the cursor, the count, and the completion
by the access that brings the count to zero (R310); the mode and the parameters stay. -/
structure Moved (n : Nat) (s t : State) : Prop where
  remaining : t.rdmaRemaining.toNat = s.rdmaRemaining.toNat - n
  cursor : t.remoteDma = s.remoteDma + BitVec.ofNat 16 (min n s.rdmaRemaining.toNat)
  mode : t.dcr = s.dcr
  config : t.cfg = s.cfg
  going : n < s.rdmaRemaining.toNat → t.rdmaState = s.rdmaState ∧ t.isr = s.isr
  last : s.rdmaRemaining.toNat ≤ n → t.rdmaState = .idle ∧ t.isr = s.isr ||| 0x40#8

/-- One access asks for a unit. -/
theorem portAdvance_moved (s : State) : Moved s.portUnit s (portAdvance (unitCount s) s) := by
  have bound := s.rdmaRemaining.isLt
  have count : unitCount s = min s.portUnit s.rdmaRemaining.toNat := rfl
  rw [portAdvance_eq (by omega)]
  refine ⟨?_, rfl, rfl, rfl, fun more => ?_, fun all => ?_⟩
  · simp only [BitVec.toNat_ofNat]
    omega
  · exact ⟨if_neg (by omega), if_neg (by omega)⟩
  · exact ⟨if_pos (by omega), if_pos (by omega)⟩

/-- Accesses one after the other ask for the sum, as long as there are bytes left for each. -/
theorem Moved.trans {m n : Nat} {s t u : State} (first : Moved m s t) (left : m < s.rdmaRemaining.toNat)
    (second : Moved n t u) : Moved (m + n) s u := by
  obtain ⟨state, isr⟩ := first.going left
  have remaining := first.remaining
  refine ⟨?_, ?_, second.mode.trans first.mode, second.config.trans first.config, fun more => ?_, fun all => ?_⟩
  · rw [second.remaining, remaining, Nat.sub_sub]
  · rw [second.cursor, first.cursor, BitVec.add_assoc, ← BitVec.ofNat_add, remaining]
    congr 2
    omega
  · obtain ⟨state', isr'⟩ := second.going (by omega)
    exact ⟨state'.trans state, isr'.trans isr⟩
  · obtain ⟨state', isr'⟩ := second.last (by omega)
    exact ⟨state', isr'.trans (by rw [isr])⟩

/-- An access of a read moves a unit and leaves memory alone. -/
theorem exec_drd_moved (w : Width) {s : State} (reading : s.rdmaState = .reading) :
    ∃ t, exec (.drd w) s = .next t ∧ t.mem = s.mem ∧ Moved s.portUnit s t :=
  let ⟨remaining, cursor, mode, config, going, last⟩ := portAdvance_moved s
  ⟨_, exec_drd_of_reading reading, rfl, ⟨remaining, cursor, mode, config, going, last⟩⟩

/-- Reads one after the other, by induction on their number. -/
theorem runOps_drd_moved (w : Width) (n : Nat) {s : State} (reading : s.rdmaState = .reading)
    (left : n * s.portUnit < s.rdmaRemaining.toNat) :
    ∃ t, runOps (List.replicate (n + 1) (.drd w)) s = .next t ∧ t.mem = s.mem ∧ Moved ((n + 1) * s.portUnit) s t := by
  obtain ⟨t, run, mem, moved⟩ := exec_drd_moved w reading
  induction n generalizing s t with
  | zero => exact ⟨t, by rw [List.replicate, List.replicate, runOps, run]; rfl, mem, by rwa [Nat.zero_add, Nat.one_mul]⟩
  | succ n ih =>
    rw [Nat.succ_mul] at left
    have unit : t.portUnit = s.portUnit := by rw [State.portUnit, moved.mode]
    have more : s.portUnit < s.rdmaRemaining.toNat := by omega
    have reading' : t.rdmaState = .reading := (moved.going more).1.trans reading
    obtain ⟨t', run', mem', moved'⟩ := exec_drd_moved w reading'
    obtain ⟨u, runs, mem'', moved''⟩ := ih reading' (by rw [unit, moved.remaining]; omega) t' run' mem' moved'
    refine ⟨u, ?_, mem''.trans mem, ?_⟩
    · rw [List.replicate_succ, runOps, run]
      exact runs
    · rw [unit] at moved''
      rw [Nat.succ_mul, Nat.add_comm]
      exact moved.trans more moved''

/-- Settles O33: the accesses of a read, one after the other. -/
theorem readTransferMovesExactlyItsBytes : Obligations.ReadTransferMovesExactlyItsBytes := by
  intro w n s reading unit pos left
  obtain ⟨k, rfl⟩ := Nat.exists_eq_succ_of_ne_zero pos.ne'
  obtain ⟨t, run, mem, moved⟩ := runOps_drd_moved w k reading left
  refine ⟨t, run, mem, moved.remaining, moved.cursor, fun more => ?_, moved.last⟩
  obtain ⟨state, isr⟩ := moved.going more
  exact ⟨state.trans reading, isr⟩

/-- Bytes written one list after the other (R242). -/
theorem writeBytes_append (c : Config) (addr : Nat → Word) (i : Nat) (m : Memory) (bytes rest : List Byte) :
    writeBytes c addr i m (bytes ++ rest) = writeBytes c addr (i + bytes.length) (writeBytes c addr i m bytes) rest := by
  induction bytes generalizing i m with
  | nil => rfl
  | cons b bytes ih =>
    rw [List.cons_append, writeBytes, ih, writeBytes, List.length_cons, Nat.add_assoc i, Nat.add_comm 1]

/-- Only the addresses count, not how they are numbered. -/
theorem writeBytes_congr {addr addr' : Nat → Word} {i i' : Nat} (same : ∀ j, addr (i + j) = addr' (i' + j)) (c : Config)
    (m : Memory) (bytes : List Byte) : writeBytes c addr i m bytes = writeBytes c addr' i' m bytes := by
  induction bytes generalizing i i' m with
  | nil => rfl
  | cons b rest ih =>
    rw [writeBytes, writeBytes, show addr i = addr' i' from same 0]
    refine ih (fun j => ?_) _
    rw [Nat.add_assoc, Nat.add_assoc]
    exact same (1 + j)

/-- The bytes an access of `unit` bytes takes from a value, low byte first (R309). -/
def unitBytes (unit : Nat) (v : HostVal) : List Byte := List.take unit [lowByte (zext16 v), highByte (zext16 v)]

theorem length_unitBytes {unit : Nat} (h : unit ≤ 2) (v : HostVal) : (unitBytes unit v).length = unit :=
  List.length_take_of_le h

/-- Bytes at the addresses from a cursor on (R308). -/
abbrev writeFrom (c : Config) (a : Word) (m : Memory) (bytes : List Byte) : Memory :=
  writeBytes c (fun j => a + BitVec.ofNat 16 j) 0 m bytes

theorem writeFrom_append (c : Config) (a : Word) (m : Memory) (bytes rest : List Byte) :
    writeFrom c a m (bytes ++ rest) = writeFrom c (a + BitVec.ofNat 16 bytes.length) (writeFrom c a m bytes) rest := by
  rw [writeFrom, writeBytes_append]
  refine writeBytes_congr (fun j => ?_) ..
  rw [Nat.zero_add, Nat.zero_add, BitVec.ofNat_add, BitVec.add_assoc]

/-- An access of a write moves a unit, its bytes to the cursor. -/
theorem exec_dwr_moved (v : HostVal) {s : State} (writing : s.rdmaState = .writing) :
    ∃ t, exec (.dwr v) s = .next t ∧ Moved s.portUnit s t ∧
      t.mem = writeFrom s.cfg s.remoteDma s.mem (List.take s.rdmaRemaining.toNat (unitBytes s.portUnit v)) := by
  obtain ⟨remaining, cursor, mode, config, going, last⟩ := portAdvance_moved s
  refine ⟨_, exec_dwr_of_writing writing, ⟨remaining, cursor, mode, config, going, last⟩, ?_⟩
  rw [unitBytes, List.take_take, Nat.min_comm]
  exact memWrite_eq_writeBytes (portCount_le s) ..

/-- Writes one after the other, by induction on their number. -/
theorem runOps_dwr_moved (v : HostVal) (rest : List HostVal) {s : State} (writing : s.rdmaState = .writing)
    (left : rest.length * s.portUnit < s.rdmaRemaining.toNat) :
    ∃ t, runOps ((v :: rest).map fun v => .dwr v) s = .next t ∧ Moved ((rest.length + 1) * s.portUnit) s t ∧
      t.mem = writeFrom s.cfg s.remoteDma s.mem
        (List.take s.rdmaRemaining.toNat ((v :: rest).flatMap (unitBytes s.portUnit))) := by
  obtain ⟨t, run, moved, mem⟩ := exec_dwr_moved v writing
  induction rest generalizing s t v with
  | nil =>
    refine ⟨t, ?_, ?_, ?_⟩
    · rw [List.map_singleton, runOps, run]
      rfl
    · rwa [List.length_nil, Nat.zero_add, Nat.one_mul]
    · rwa [List.flatMap_singleton]
  | cons v' rest ih =>
    rw [List.length_cons, Nat.succ_mul] at left
    have unit : t.portUnit = s.portUnit := by rw [State.portUnit, moved.mode]
    have more : s.portUnit < s.rdmaRemaining.toNat := by omega
    have writing' : t.rdmaState = .writing := (moved.going more).1.trans writing
    obtain ⟨t', run', moved', mem'⟩ := exec_dwr_moved v' writing'
    obtain ⟨u, runs, moved'', mem''⟩ :=
      ih v' writing' (by rw [unit, moved.remaining]; omega) t' run' moved' mem'
    have length := length_unitBytes (portUnit_le s) v
    refine ⟨u, ?_, ?_, ?_⟩
    · rw [List.map_cons, runOps, run]
      exact runs
    · rw [unit] at moved''
      rw [List.length_cons, Nat.succ_mul, Nat.add_comm]
      exact moved.trans more moved''
    · have whole : List.take s.rdmaRemaining.toNat (unitBytes s.portUnit v) = unitBytes s.portUnit v :=
        List.take_of_length_le (by omega)
      rw [mem'', unit, moved.config, moved.cursor, moved.remaining, mem, whole, List.flatMap_cons (x := v), List.take_append,
        whole, writeFrom_append, length, Nat.min_eq_left (by omega)]

/-- Settles O32: the accesses of a write, one after the other. -/
theorem writeTransferMovesExactlyItsBytes : Obligations.WriteTransferMovesExactlyItsBytes := by
  intro values s writing unit bytes some left
  obtain ⟨v, rest, rfl⟩ := List.exists_cons_of_ne_nil some
  obtain ⟨t, run, moved, mem⟩ := runOps_dwr_moved v rest writing left
  have same : bytes = (v :: rest).flatMap (unitBytes s.portUnit) := by
    refine congrArg (List.flatMap · (v :: rest)) (funext fun v => ?_)
    cases v with
    | byte b => rw [unitBytes, lowByte_zext16, highByte_zext16_byte]; rfl
    | word x => rfl
  refine ⟨t, run, moved.remaining, moved.cursor, ?_, fun more => ?_, moved.last⟩
  · rw [mem, same]
  · obtain ⟨state, isr⟩ := moved.going more
    exact ⟨state.trans writing, isr⟩

end Sys2Proof.Machine
end

section
/-! # What each operation can change: proofs of the whole-machine rules -/

namespace Sys2Proof.Machine

/-- What an operation that is no CR write and no act of an engine or of the reset leaves alone: a register access, or an
operation of another kind that goes by without effect. ISR and each ring pointer change by the write of the register
only. -/
structure RegisterAccess (i : Instr) (s t : State) : Prop where
  kept : t.cfg = s.cfg ∧ t.macrom = s.macrom ∧ t.cr = s.cr ∧ t.tsr = s.tsr ∧ t.mem = s.mem
  isr : t.isr = s.isr ∨ ∃ v, i = .wrP0Isr v ∧ t.isr = w1c s.isr (low8 v)
  pageStart : t.pageStart = s.pageStart ∨ ∃ v, i = .wrP0Pstart v
  pageStop : t.pageStop = s.pageStop ∨ ∃ v, i = .wrP0Pstop v
  boundPtr : t.boundPtr = s.boundPtr ∨ ∃ v, i = .wrP0Bnry v
  currPage : t.currPage = s.currPage ∨ ∃ v, i = .wrP1Curr v

/-- What an operation has done, with the operation it was (`Answers` leaves that open). -/
inductive Performed (i : Instr) (s : State) : State → Prop where
  | access (t : State) (h : RegisterAccess i s t) : Performed i s t
  | crWrite (v : Byte) (writes : writesCr i v) : Performed i s (irqUpdate (crStore v (opened s)))
  | portRead (value : Option HostVal) (w : Width) (operation : i = .drd w) :
      Performed i s (irqUpdate { portAdvance (portCount s) s with out := ⟨value, []⟩ })
  | portWrite (v : HostVal) (operation : i = .dwr v) (writing : s.rdmaState = .writing) :
      Performed i s (irqUpdate (portAdvance (portCount s) { opened s with
        mem := memWrite s.cfg s.mem s.remoteDma (portCount s) (zext16 v) }))
  | delivery (frame : List Byte) (errs : Byte) (t : State) (operation : i = .rx frame errs)
      (ends : Delivered frame errs s t) : Performed i s t
  | complete (outcome : Byte) (operation : i = .txdone outcome) (allowed : outcomeAllowed s.tcr outcome = true) :
      Performed i s (irqUpdate (txReport outcome (opened s)))
  | reset (content : List Byte) (operation : i = .hreset content) :
      Performed i s (irqUpdate (hardReset content (opened s)))

theorem registerAccess_quiet (i : Instr) (s : State) : RegisterAccess i s (quiet s) :=
  ⟨⟨rfl, rfl, rfl, rfl, rfl⟩, .inl rfl, .inl rfl, .inl rfl, .inl rfl, .inl rfl⟩

/-- Every next state of an operation is one of these. -/
theorem performed_of_exec {i : Instr} {s t : State} (h : exec i s = .next t) : Performed i s t := by
  cases i with
  | wrCr v => exact next_of_writesCr (v := low8 v) (.inl ⟨v, rfl, rfl⟩) h ▸ .crWrite (low8 v) (.inl ⟨v, rfl, rfl⟩)
  | crStop _ | crStart _ _ | crXmit _ | crRdmaRd _ _ | crRdmaWr _ _ | crRdmaSend _ _ | crRdmaAbort _ _ _
  | crRdmaAbort0 _ _ | crPage _ _ => exact next_of_writesCr (.inr rfl) h ▸ .crWrite _ (.inr rfl)
  | drd w =>
    by_cases reading : s.rdmaState = .reading
    · rw [exec_drd_of_reading reading] at h
      cases h
      exact .portRead _ w rfl
    · cases (if_pos reading : exec (.drd w) s = _).symm.trans h
      exact .access _ ⟨⟨rfl, rfl, rfl, rfl, rfl⟩, .inl rfl, .inl rfl, .inl rfl, .inl rfl, .inl rfl⟩
  | dwr v =>
    by_cases writing : s.rdmaState = .writing
    · rw [exec_dwr_of_writing writing] at h
      cases h
      exact .portWrite v rfl writing
    · cases (if_pos writing : exec (.dwr v) s = _).symm.trans h
      exact .access _ (registerAccess_quiet _ s)
  | rx frame errs => exact .delivery frame errs t rfl (delivered_of_exec_rx h)
  | txdone outcome =>
    change execTxdone outcome s = .next t at h
    unfold execTxdone at h
    split at h
    · cases h
      exact .access _ (registerAccess_quiet _ s)
    split at h
    · cases h
    · next allowed =>
      cases h
      exact .complete outcome rfl (by simpa using allowed)
  | hreset content =>
    cases h
    exact .reset content rfl
  | wrP0Isr v =>
    cases h
    exact .access _ ⟨⟨rfl, rfl, rfl, rfl, rfl⟩, .inr ⟨v, rfl, rfl⟩, .inl rfl, .inl rfl, .inl rfl, .inl rfl⟩
  | wrP0Pstart v =>
    cases h
    exact .access _ ⟨⟨rfl, rfl, rfl, rfl, rfl⟩, .inl rfl, .inr ⟨v, rfl⟩, .inl rfl, .inl rfl, .inl rfl⟩
  | wrP0Pstop v =>
    cases h
    exact .access _ ⟨⟨rfl, rfl, rfl, rfl, rfl⟩, .inl rfl, .inl rfl, .inr ⟨v, rfl⟩, .inl rfl, .inl rfl⟩
  | wrP0Bnry v =>
    cases h
    exact .access _ ⟨⟨rfl, rfl, rfl, rfl, rfl⟩, .inl rfl, .inl rfl, .inl rfl, .inr ⟨v, rfl⟩, .inl rfl⟩
  | wrP1Curr v =>
    cases h
    exact .access _ ⟨⟨rfl, rfl, rfl, rfl, rfl⟩, .inl rfl, .inl rfl, .inl rfl, .inl rfl, .inr ⟨v, rfl⟩⟩
  | _ =>
    cases h
    exact .access _ ⟨⟨rfl, rfl, rfl, rfl, rfl⟩, .inl rfl, .inl rfl, .inl rfl, .inl rfl, .inl rfl⟩

/-! ## Completion (R7) -/

/-- The bits of a value that R305 refuses. -/
theorem mask_of_send {v : Byte} (stp : stpBit v = false) (code : cmdField v = 3#3) : v &&& 0x39#8 = 0x18#8 := by
  revert v
  decide

/-- A CR write completes, or it is the `send` that `SEND_MODE` refuses (R305). -/
theorem exec_writesCr_completes {i : Instr} {v : Byte} (writes : writesCr i v) (s : State) :
    (∃ t, exec i s = .next t) ∨
      ∃ v, writesCr i v ∧ v &&& 0x39#8 = 0x18#8 ∧ s.cfg.sendMode = .refuse ∧ exec i s = .refused .sendCommand := by
  obtain ⟨hv, rfl, run⟩ := exec_of_writesCr writes s
  cases refused : sendRefused (low8 hv) s with
  | false => exact .inl ⟨_, run.trans (crWrite_of_performed refused)⟩
  | true =>
    rw [crWrite, if_pos refused] at run
    simp only [sendRefused, Bool.and_eq_true, Bool.not_eq_true', beq_iff_eq, decodeRdma_eq_send_iff] at refused
    obtain ⟨⟨stp, code⟩, mode⟩ := refused
    exact .inr ⟨_, writes, mask_of_send stp code, mode, run⟩

theorem exec_drd_completes (w : Width) (s : State) : ∃ t, exec (.drd w) s = .next t := by
  by_cases reading : s.rdmaState = .reading
  · exact ⟨_, exec_drd_of_reading reading⟩
  · exact ⟨_, if_pos reading⟩

theorem exec_dwr_completes (v : HostVal) (s : State) : ∃ t, exec (.dwr v) s = .next t := by
  by_cases writing : s.rdmaState = .writing
  · exact ⟨_, exec_dwr_of_writing writing⟩
  · exact ⟨_, if_pos writing⟩

/-- A delivery with a verdict in its domain completes (R230). -/
theorem exec_rx_completes (frame : List Byte) {errs : Byte} (domain : verdictOk errs = true) (s : State) :
    ∃ t, exec (.rx frame errs) s = .next t := by
  change ∃ t, execRx frame errs s = .next t
  rw [execRx, if_neg (by simp [domain])]
  split
  · exact ⟨_, rfl⟩
  split
  · exact ⟨_, rfl⟩
  split
  · exact ⟨_, rfl⟩
  · exact ⟨_, rfl⟩

/-- R276: one of the seven outcomes is not allowed only outside loopback, where `tx_ok` alone is. -/
theorem outcomeAllowed_eq_false {tcr outcome : Byte} (seven : txOutcomes.contains outcome = true)
    (h : outcomeAllowed tcr outcome = false) : outcome ≠ 0x01#8 ∧ tcr.extractLsb' 1 2 = 0#2 := by
  unfold outcomeAllowed at h
  split at h
  · next straight => exact ⟨ne_of_beq_false h, straight⟩
  · rw [seven] at h
    cases h

/-- Settles O55: every row but those of CR and of the engines completes as it stands, and those complete but for the two
refusals. -/
theorem everyOperationCompletes : Obligations.EveryOperationCompletes := by
  intro i s wf
  cases i with
  | wrCr v => exact (exec_writesCr_completes (.inl ⟨v, rfl, rfl⟩) s).imp_right .inl
  | crStop _ | crStart _ _ | crXmit _ | crRdmaRd _ _ | crRdmaWr _ _ | crRdmaSend _ _ | crRdmaAbort _ _ _
  | crRdmaAbort0 _ _ | crPage _ _ => exact (exec_writesCr_completes (.inr rfl) s).imp_right .inl
  | drd w => exact .inl (exec_drd_completes w s)
  | dwr v => exact .inl (exec_dwr_completes v s)
  | rx frame errs => exact .inl (exec_rx_completes frame wf s)
  | txdone outcome =>
    change (∃ t, execTxdone outcome s = .next t) ∨ _
    cases pending : s.cr.txPacket with
    | false => exact .inl ⟨_, if_pos pending⟩
    | true =>
      have busy : ¬ s.cr.txPacket = false := by simp [pending]
      cases allowed : outcomeAllowed s.tcr outcome with
      | true => exact .inl ⟨_, (if_neg busy).trans (if_neg (by simp [allowed]))⟩
      | false =>
        obtain ⟨failure, straight⟩ := outcomeAllowed_eq_false wf allowed
        exact .inr (.inr ⟨outcome, rfl, failure, rfl, straight, (if_neg busy).trans (if_pos allowed)⟩)
  | _ => exact .inl ⟨_, rfl⟩

/-! ## The register page and the constants (R204, R8) -/

/-- Settles O56: of all operations a CR write and the reset alone change CR's page, and none changes a constant. -/
theorem onlyCrWritesChangeThePage : Obligations.OnlyCrWritesChangeThePage := by
  intro i s t h
  cases performed_of_exec h with
  | access _ access =>
    obtain ⟨⟨cfg, macrom, cr, _, _⟩, _⟩ := access
    exact ⟨cfg, macrom, .inl (congrArg CommandReg.pgsel cr)⟩
  | crWrite v writes =>
    have cr := crStore_cr v (opened s)
    refine ⟨?_, ?_, .inr (.inl ⟨v, writes, by rw [irqUpdate_cr, cr]; rfl⟩)⟩
    · rw [crStore_frame]; rfl
    · rw [crStore_frame]; rfl
  | portRead _ _ _ | portWrite _ _ _ | complete _ _ _ => exact ⟨rfl, rfl, .inl rfl⟩
  | delivery frame errs _ _ ends => cases ends <;> exact ⟨rfl, rfl, .inl rfl⟩
  | reset content operation => exact ⟨rfl, rfl, .inr (.inr ⟨content, operation, rfl⟩)⟩

/-! ## ISR (R342, R346) -/

/-- A flag a single operation may set. -/
abbrev Flag (flag : Byte) : Prop := flag ∈ [0x00#8, 0x01#8, 0x02#8, 0x04#8, 0x08#8, 0x10#8, 0x40#8, 0x80#8]

/-- ISR after an operation: a flag set, the named flags cleared, or the value of the reset. -/
theorem isr_of_exec {i : Instr} {s t : State} (h : exec i s = .next t) :
    (∃ flag, Flag flag ∧ t.isr = s.isr ||| flag) ∨ (∃ v, i = .wrP0Isr v ∧ t.isr = w1c s.isr (low8 v)) ∨
      ∃ content, i = .hreset content ∧ Flag t.isr := by
  have kept : s.isr = s.isr ||| 0x00#8 := BitVec.or_zero.symm
  have advanced (n : Nat) : ∃ flag, Flag flag ∧ (portAdvance n s).isr = s.isr ||| flag := by
    rw [portAdvance_isr]
    split
    · exact ⟨0x40#8, by decide, rfl⟩
    · exact ⟨0x00#8, by decide, kept⟩
  cases performed_of_exec h with
  | access _ access => exact access.isr.imp (fun same => ⟨0x00#8, by decide, same.trans kept⟩) .inl
  | crWrite v _ =>
    obtain ⟨flag, mem, isr⟩ := crStore_isr v (opened s)
    have single : ∀ flag ∈ [0x00#8, 0x40#8, 0x80#8], Flag flag := by decide
    exact .inl ⟨flag, single flag mem, isr⟩
  | portRead _ _ _ => exact .inl (advanced (portCount s))
  | portWrite _ _ _ => exact .inl (advanced (portCount s))
  | delivery frame errs _ _ ends =>
    left
    cases ends with
    | dropped _ => exact ⟨0x00#8, by decide, kept⟩
    | refused _ _ _ => exact ⟨0x04#8, by decide, rfl⟩
    | stored _ =>
      refine ⟨_, ?_, rfl⟩
      split <;> decide
    | overflowed _ _ _ => exact ⟨0x10#8, by decide, rfl⟩
  | complete outcome _ _ =>
    refine .inl ⟨_, ?_, rfl⟩
    split <;> decide
  | reset content operation =>
    refine .inr (.inr ⟨content, operation, ?_⟩)
    rw [irqUpdate_isr, hardReset_isr]
    split <;> decide

/-- A part of a single flag is the flag or nothing. -/
theorem flag_and {flag : Byte} (single : Flag flag) (other : Byte) : Flag (flag &&& other) := by
  have part (k : Nat) : BitVec.twoPow 8 k &&& other = BitVec.twoPow 8 k ∨ BitVec.twoPow 8 k &&& other = 0x00#8 := by
    rw [BitVec.and_comm, BitVec.and_twoPow]
    split
    · exact .inl rfl
    · exact .inr rfl
  have single' : ∀ flag : Byte, Flag flag → flag = 0x00#8 ∨ ∃ k < 8, flag = BitVec.twoPow 8 k := by decide
  obtain rfl | ⟨k, -, rfl⟩ := single' flag single
  · rw [BitVec.zero_and]
    decide
  · obtain whole | nothing := part k
    · rwa [whole]
    · rw [nothing]
      decide

/-- Settles O57: a flag that is set is one, a flag that is cleared is named, and a reset does both. -/
theorem flagsAreSetOneAtATime : Obligations.FlagsAreSetOneAtATime := by
  intro i s t h
  obtain ⟨flag, single, isr⟩ | ⟨v, operation, isr⟩ | ⟨content, operation, single⟩ := isr_of_exec h
  · rw [isr]
    refine ⟨?_, fun k before after => ?_⟩
    · rw [BitVec.and_or_distrib_right, BitVec.and_not_self, BitVec.ofNat_eq_ofNat, BitVec.zero_or]
      exact flag_and single _
    · rw [BitVec.getLsbD_or, before] at after
      cases after
  · rw [isr]
    refine ⟨?_, fun k before after => .inl ⟨v, operation, ?_⟩⟩
    · rw [w1c, BitVec.and_assoc, BitVec.and_comm (~~~low8 v), ← BitVec.and_assoc, BitVec.and_not_self,
        BitVec.ofNat_eq_ofNat, BitVec.zero_and]
      decide
    · rw [getLsbD_w1c, before] at after
      simpa using after
  · exact ⟨flag_and single _, fun _ _ _ => .inr ⟨content, operation⟩⟩

/-! ## Frames and TSR (R270, R272) -/

/-- A frame leaves only as CR comes to show a transmission pending (R270). -/
theorem sentFrames_of_cr_kept {i : Instr} {s t : State} (h : exec i s = .next t) (kept : t.cr = s.cr) :
    sentFrames t.out = [] := by
  cases exec_next h with
  | result o empty =>
    rw [sentFrames, empty]
    rfl
  | draw v => rfl
  | write v u store =>
    rw [irqUpdate_sentFrames]
    cases store with
    | commandRegister _ =>
      rw [irqUpdate_cr] at kept
      rw [crStore_sentFrames, kept, opened_cr, if_neg (by simp)]
      rfl
    | _ => rfl
  | act u action =>
    rw [irqUpdate_sentFrames]
    cases action <;> rfl

/-- The bits of a value that makes a transmission pending (R206). -/
theorem mask_of_trigger {v : Byte} (h : (!stpBit v && (txpBit v && staBit v)) = true) : v &&& 0x07#8 = 0x06#8 := by
  revert v
  decide

/-- `tx_ok` is the only outcome with bit 0 (R26). -/
theorem txOk_of_outcome {outcome : Byte} (seven : txOutcomes.contains outcome = true) (ok : outcome.getLsbD 0 = true) :
    outcome = 0x01#8 := by
  revert outcome
  decide

/-- Settles O58: a frame leaves only as a transmission becomes pending, which only a trigger does, and TSR is written by a
trigger, a completion and the reset. -/
theorem onlyATriggerSendsAFrame : Obligations.OnlyATriggerSendsAFrame := by
  intro i s t h
  cases performed_of_exec h with
  | access _ access =>
    obtain ⟨⟨_, _, cr, tsr, _⟩, _⟩ := access
    exact ⟨.inl (sentFrames_of_cr_kept h cr), fun ok => .inl (tsr ▸ ok)⟩
  | crWrite v writes =>
    rw [irqUpdate_sentFrames, crStore_sentFrames, irqUpdate_tsr, crStore_tsr, irqUpdate_cr]
    split
    · next triggered =>
      rw [Bool.and_eq_true, Bool.not_eq_true', opened_cr] at triggered
      obtain ⟨busy, idle⟩ := triggered
      refine ⟨.inr ⟨rfl, idle, busy, v, writes, mask_of_trigger ?_⟩, nofun⟩
      rwa [crStore_cr, opened_cr, idle, Bool.false_or] at busy
    · exact ⟨.inl rfl, .inl⟩
  | portRead _ _ _ => exact ⟨.inl (irqUpdate_sentFrames _), .inl⟩
  | portWrite _ _ _ => exact ⟨.inl (irqUpdate_sentFrames _), .inl⟩
  | delivery frame errs _ _ ends =>
    cases ends with
    | dropped _ => exact ⟨.inl rfl, .inl⟩
    | refused _ _ _ | stored _ | overflowed _ _ _ => exact ⟨.inl (irqUpdate_sentFrames _), .inl⟩
  | complete outcome operation allowed =>
    refine ⟨.inl (irqUpdate_sentFrames _), fun ok => .inr ?_⟩
    rw [operation, txOk_of_outcome (txOutcomes_of_allowed allowed) ok]
  | reset content _ =>
    refine ⟨.inl (irqUpdate_sentFrames _), fun ok => ?_⟩
    rw [irqUpdate_tsr, hardReset_tsr] at ok
    cases ok

/-! ## Packet memory and the ring registers (R40, R79) -/

/-- Settles O59: a register access touches no memory and no ring pointer but its own, a CR write none at all. -/
theorem whatMayChangeMemoryAndTheRing : Obligations.WhatMayChangeMemoryAndTheRing := by
  intro i s t h
  cases performed_of_exec h with
  | access _ access =>
    obtain ⟨⟨_, _, _, _, mem⟩, _, pageStart, pageStop, boundPtr, _⟩ := access
    exact ⟨.inl mem, boundPtr.imp_right .inl, pageStart.imp_right .inl, pageStop.imp_right .inl⟩
  | crWrite v _ =>
    rw [crStore_frame]
    exact ⟨.inl rfl, .inl rfl, .inl rfl, .inl rfl⟩
  | portRead _ _ _ | complete _ _ _ => exact ⟨.inl rfl, .inl rfl, .inl rfl, .inl rfl⟩
  | portWrite v operation writing => exact ⟨.inr (.inl ⟨⟨v, operation⟩, writing⟩), .inl rfl, .inl rfl, .inl rfl⟩
  | delivery frame errs _ operation ends =>
    cases ends with
    | stored fits => exact ⟨.inr (.inr (.inl ⟨frame, errs, operation, fits⟩)), .inl rfl, .inl rfl, .inl rfl⟩
    | dropped _ | refused _ _ _ | overflowed _ _ _ => exact ⟨.inl rfl, .inl rfl, .inl rfl, .inl rfl⟩
  | reset content operation =>
    have reset : ∃ content, i = .hreset content := ⟨content, operation⟩
    exact ⟨.inr (.inr (.inr reset)), .inr (.inr reset), .inr (.inr reset), .inr (.inr reset)⟩

end Sys2Proof.Machine
end

section
/-! # The receive engine (spec/42_receive.md): proofs of its functional rules -/

namespace Sys2Proof.Machine

/-! ## The filter (R232 to R236) -/

/-- R234, inner loop: the bits of a byte, least significant first. -/
theorem crcBits_eq_foldl (n : Nat) (crc : BitVec 32) (b : Byte) :
    crcBits n crc b = ((List.range n).map fun j => b.getLsbD j).foldl crcBit crc := by
  induction n generalizing crc b with
  | zero => rfl
  | succ n ih =>
    rw [crcBits, ih, List.range_succ_eq_map, List.map_cons, List.map_map, List.foldl_cons]
    simp only [BitVec.getLsbD_ushiftRight, Nat.add_comm 1]
    rfl

/-- R234, both loops: the bits of the address one after the other. -/
theorem crcBytes_eq_foldl (crc : BitVec 32) (dst : List Byte) :
    crcBytes crc dst = (dst.flatMap fun b => (List.range 8).map fun j => b.getLsbD j).foldl crcBit crc := by
  induction dst generalizing crc with
  | nil => rfl
  | cons b rest ih => rw [crcBytes, ih, crcBits_eq_foldl, List.flatMap_cons, List.foldl_append]

theorem hashBit_eq (mchash : Vector Byte 8) (k : BitVec 6) :
    hashBit mchash k = (mchash.toList.getD (k.toNat / 8) 0x00#8).getLsbD (k.toNat % 8) := by
  have bound : k.toNat / 8 < 8 := by
    have := k.isLt
    omega
  rw [hashBit, List.getD_eq_getElem _ _ (by simpa using bound), Vector.getElem_toList]

/-- R232, R233: the disjunction of the four tests, as the statements write it. -/
theorem accepts_iff (s : State) (frame : List Byte) : accepts s frame = true ↔
    s.rcr.getLsbD 4 = true ∨ (6 ≤ frame.length ∧
      (frame.take 6 = s.physaddr.toList ∨
        (s.rcr.getLsbD 2 = true ∧ frame.take 6 = [0xFF#8, 0xFF#8, 0xFF#8, 0xFF#8, 0xFF#8, 0xFF#8]) ∨
        (s.rcr.getLsbD 3 = true ∧ hashBit s.mchash (mcHash s.cfg.mcHash (frame.take 6)) = true))) := by
  simp only [accepts, promiscuous, broadcastOk, multicastOk, Bool.or_eq_true, Bool.and_eq_true, decide_eq_true_eq,
    beq_iff_eq, or_assoc, and_comm (b := s.rcr.getLsbD 2 = true)]
  rfl

/-- R231, R233, R235, R236: a frame goes by without a trace for one of four reasons. -/
theorem rxSilent_iff (s : State) (frame : List Byte) : rxSilent s frame = true ↔
    running s.cr = false ∨ accepts s frame = false ∨ s.rcr.getLsbD 5 = true ∨
      (frame.length < s.cfg.runtMin ∧ s.rcr.getLsbD 1 = false) := by
  simp only [rxSilent, monitor, runtsOk, Bool.or_eq_true, Bool.and_eq_true, Bool.not_eq_true', decide_eq_true_eq, or_assoc]

/-- Settles O35: each reason of `rxSilent` by itself drops the frame, and without one of them it passes. -/
theorem filterDropsAndAccepts : Obligations.FilterDropsAndAccepts := by
  refine ⟨fun dst => ?hash, hashBit_eq, fun frame errs s domain reason => ?drops,
    fun frame s test start stop quiet runt => ?passes⟩
  case hash =>
    change (crcBytes _ dst).extractLsb' 26 6 = _
    rw [crcBytes_eq_foldl]
    rfl
  case drops =>
    refine exec_rx_of_silent domain ((rxSilent_iff s frame).mpr (.inr (reason.imp_left fun ⟨closed, untested⟩ => ?_)))
    rw [← Bool.not_eq_true, accepts_iff]
    rintro (wide | ⟨long, own | broadcast | multicast⟩)
    · rw [closed] at wide
      cases wide
    · obtain short | ⟨notOwn, _, _⟩ := untested
      · omega
      · exact notOwn own
    · obtain short | ⟨_, notBroadcast, _⟩ := untested
      · omega
      · exact notBroadcast broadcast
    · obtain short | ⟨_, _, notMulticast⟩ := untested
      · omega
      · exact notMulticast multicast
  case passes =>
    rw [← Bool.not_eq_true, rxSilent_iff, running, (accepts_iff s frame).mpr test, start, stop, quiet]
    rintro (h | h | h | ⟨short, strict⟩)
    · cases h
    · cases h
    · cases h
    · obtain long | lenient := runt
      · omega
      · rw [strict] at lenient
        cases lenient

/-! ## The ends of a delivery (R237, R239, R240) -/

theorem exec_rx_of_refused {frame : List Byte} {errs : Byte} {s : State} (domain : verdictOk errs = true)
    (passes : rxSilent s frame = false) (bad : errs ≠ 0x00#8) (strict : errorsOk s.rcr = false) :
    exec (.rx frame errs) s = .next (irqUpdate (rxRefuse errs (opened s))) := by
  change execRx frame errs s = _
  rw [execRx, if_neg (by simp [domain]), if_neg (by simp [passes]), if_pos ⟨bad, strict⟩]
  rfl

/-- A frame past the validation reaches the space check. -/
theorem exec_rx_of_valid {frame : List Byte} {errs : Byte} {s : State} (domain : verdictOk errs = true)
    (passes : rxSilent s frame = false) (valid : errs = 0x00#8 ∨ errorsOk s.rcr = true) :
    exec (.rx frame errs) s = .next (irqUpdate (if pagesFor frame.length < ringAvail s then rxStore frame errs (opened s)
      else rxOverflow (opened s))) := by
  have noRefusal : ¬ (errs ≠ 0x00#8 ∧ errorsOk s.rcr = false) := by
    rintro ⟨bad, strict⟩
    obtain good | lenient := valid
    · exact bad good
    · rw [strict] at lenient
      cases lenient
  change execRx frame errs s = _
  rw [execRx, if_neg (by simp [domain]), if_neg (by simp [passes]), if_neg noRefusal]
  split
  · rfl
  · rfl

theorem exec_rx_of_stored {frame : List Byte} {errs : Byte} {s : State} (domain : verdictOk errs = true)
    (fits : storesFrame frame errs s) : exec (.rx frame errs) s = .next (irqUpdate (rxStore frame errs (opened s))) := by
  obtain ⟨passes, valid, room⟩ := fits
  rw [exec_rx_of_valid domain passes valid, if_pos room]

/-- Settles O36: the third branch of `Deliver`, and its first. -/
theorem errorFramesAreRefused : Obligations.ErrorFramesAreRefused := fun _ errs _ =>
  ⟨exec_rx_of_refused, fun outside => if_pos (beq_false_of_ne outside : verdictOk errs = false)⟩

/-- Settles O37: the last branch of `Deliver`, its tally one higher. -/
theorem overflowCountsAndDropsTheFrame : Obligations.OverflowCountsAndDropsTheFrame := by
  intro frame errs s domain passes valid full
  have tally : BitVec.ofNat 8 (s.tallycnt2.toNat + 1) = s.tallycnt2 + 1#8 := by
    rw [BitVec.ofNat_add, BitVec.ofNat_toNat, BitVec.setWidth_eq]
  have noRoom : ¬ pagesFor frame.length < ringAvail s := Nat.not_lt.mpr full
  rw [exec_rx_of_valid domain passes valid, if_neg noRoom, tally]
  rfl

/-- Settles O39: the branch of `Deliver` that stores. -/
theorem storedFrameAdvancesTheRing : Obligations.StoredFrameAdvancesTheRing := by
  intro frame errs s domain fits
  have flags : (if errs = 0x00#8 then s.isr ||| 0x01#8 else s.isr ||| 0x04#8) =
      s.isr ||| (if errs = 0x00#8 then isrPktRx else isrRxErr) := by
    split
    · rfl
    · rfl
  rw [exec_rx_of_stored domain fits, flags]
  rfl

/-! ## Ring arithmetic (R238, R240, R246) -/

theorem ringSize_pos {s : State} (ring : s.ringFormed) : 0 < ringSize s := Nat.sub_pos_of_lt ring.1

/-- R238: the distance forward to `bound_ptr`. -/
theorem ringAvail_of_ringFormed {s : State} (ring : s.ringFormed) : ringAvail s =
    if s.currPage.toNat < s.boundPtr.toNat then s.boundPtr.toNat - s.currPage.toNat
    else s.boundPtr.toNat + ringSize s - s.currPage.toNat := by
  have pos := ringSize_pos ring
  have size : ringSize s = s.pageStop.toNat - s.pageStart.toNat := rfl
  obtain ⟨_, _, _, _, _⟩ := ring
  simp only [ringAvail, if_neg (Nat.ne_of_gt pos)]
  obtain ahead | same | behind := Nat.lt_trichotomy s.currPage.toNat s.boundPtr.toNat
  · rw [Int.emod_eq_of_lt (by omega) (by omega), if_neg (by omega), if_pos ahead]
    omega
  · rw [same, sub_self, Int.zero_emod, if_pos Int.toNat_zero, if_neg (lt_irrefl _)]
    omega
  · rw [Int.emod_eq_add_self_emod, Int.emod_eq_of_lt (by omega) (by omega), if_neg (by omega), if_neg (by omega)]
    omega

/-- A frame that fits leaves a page of the ring free (R238). -/
theorem pagesFor_lt_ringSize {frame : List Byte} {errs : Byte} {s : State} (fits : storesFrame frame errs s) :
    pagesFor frame.length < ringSize s := by
  obtain ⟨_, _, room⟩ := fits
  exact room.trans_le (ringAvail_le s)

/-- The header and the frame fit in their pages (R238). -/
theorem length_le_pagesFor (length : Nat) : length + 4 ≤ 256 * pagesFor length := by
  unfold pagesFor
  omega

/-- Settles O38: the distance, and the pages of a frame against it. -/
theorem ringSpaceIsTheDistanceToTheBoundary : Obligations.RingSpaceIsTheDistanceToTheBoundary := by
  intro s
  refine ⟨ringAvail_of_ringFormed, ringAvail_le s, fun empty => if_pos (Nat.sub_eq_zero_of_le empty),
    fun frame errs fits => ?_⟩
  have room : pagesFor frame.length < s.pageStop.toNat - s.pageStart.toNat := pagesFor_lt_ringSize fits
  have pages := pagesFor_pos frame.length
  have bytes := length_le_pagesFor frame.length
  have stop := s.pageStop.isLt
  omega

/-- R240: the page after a frame, in the ring. -/
theorem toNat_nextPage {s : State} (ring : s.ringFormed) {pages : Nat} (room : pages < ringSize s) :
    (nextPage s pages).toNat =
      if s.pageStop.toNat ≤ s.currPage.toNat + pages then s.currPage.toNat + pages - ringSize s
      else s.currPage.toNat + pages := by
  have size : ringSize s = s.pageStop.toNat - s.pageStart.toNat := rfl
  have stop := s.pageStop.isLt
  obtain ⟨_, _, _, _, _⟩ := ring
  rw [nextPage, BitVec.toNat_ofNat, Nat.mod_eq_of_lt]
  split <;> omega

/-- R246: a frame that fits leaves `curr_page` in the ring and off `bound_ptr`. -/
theorem nextPage_in_ring {s : State} (ring : s.ringFormed) {pages : Nat} (some : 0 < pages) (room : pages < ringAvail s) :
    s.pageStart.toNat ≤ (nextPage s pages).toNat ∧ (nextPage s pages).toNat < s.pageStop.toNat ∧
      nextPage s pages ≠ s.boundPtr := by
  have size : ringSize s = s.pageStop.toNat - s.pageStart.toNat := rfl
  have short := room.trans_le (ringAvail_le s)
  have page := toNat_nextPage ring short
  rw [ringAvail_of_ringFormed ring] at room
  obtain ⟨_, _, _, _, _⟩ := ring
  refine ⟨?_, ?_, fun same => ?_⟩
  · rw [page]
    split <;> omega
  · rw [page]
    split <;> omega
  · rw [same] at page
    split at room <;> split at page <;> omega

/-- R242: where a byte of a frame stands. -/
theorem toNat_ringAddr {s : State} (ring : s.ringFormed) {i : Nat} (room : i < 256 * ringSize s) :
    (ringAddr s i).toNat =
      if 256 * s.pageStop.toNat ≤ 256 * s.currPage.toNat + i then 256 * s.currPage.toNat + i - 256 * ringSize s
      else 256 * s.currPage.toNat + i := by
  have size : ringSize s = s.pageStop.toNat - s.pageStart.toNat := rfl
  have stop := s.pageStop.isLt
  obtain ⟨_, _, _, _, _⟩ := ring
  rw [ringAddr, BitVec.toNat_ofNat, Nat.mod_eq_of_lt]
  · rfl
  · change (if 256 * s.pageStop.toNat ≤ 256 * s.currPage.toNat + i then 256 * s.currPage.toNat + i - 256 * ringSize s
      else 256 * s.currPage.toNat + i) < 65536
    split <;> omega

/-- Settles O41: a frame takes less than the ring, so that its addresses wrap once at most. -/
theorem ringAddressesStayInTheRing : Obligations.RingAddressesStayInTheRing := by
  intro frame errs s i j ring fits hi hj
  have room := pagesFor_lt_ringSize fits
  have bytes := length_le_pagesFor frame.length
  have atI := toNat_ringAddr ring (i := i) (by omega)
  have atJ := toNat_ringAddr ring (i := j) (by omega)
  have size : ringSize s = s.pageStop.toNat - s.pageStart.toNat := rfl
  obtain ⟨_, _, _, _, _⟩ := ring
  refine ⟨?_, ?_, fun same => ?_, ?_⟩
  · rw [atI]
    split <;> omega
  · rw [atI]
    split <;> omega
  · rw [same, atJ] at atI
    split at atI <;> split at atI <;> omega
  · rw [atI]
    split <;> omega

/-! ## The stored bytes (R241, R242) -/

theorem highByte_ofNat (n : Nat) : highByte (BitVec.ofNat 16 n) = BitVec.ofNat 8 (n / 256) := by
  apply BitVec.eq_of_toNat_eq
  simp only [highByte, BitVec.extractLsb'_toNat, BitVec.toNat_ofNat, Nat.shiftRight_eq_div_pow]
  omega

theorem lowByte_ofNat (n : Nat) : lowByte (BitVec.ofNat 16 n) = BitVec.ofNat 8 n := by
  apply BitVec.eq_of_toNat_eq
  simp only [lowByte, BitVec.extractLsb'_toNat, BitVec.toNat_ofNat, Nat.shiftRight_zero]
  omega

/-- R114, R241: the header of a frame, the count low byte first. -/
theorem rxBytes_eq (s : State) (frame : List Byte) (errs : Byte) : rxBytes s frame errs =
    (match s.cfg.rxhdrOrder with
      | .statusFirst => [rxStatus errs, nextPage s (pagesFor frame.length)]
      | .nextFirst => [nextPage s (pagesFor frame.length), rxStatus errs]) ++
      [BitVec.ofNat 8 (frame.length + 4), BitVec.ofNat 8 ((frame.length + 4) / 256)] ++ frame := by
  simp only [rxBytes, rxHeader, highByte_ofNat, lowByte_ofNat]
  cases s.cfg.rxhdrOrder with
  | statusFirst => rfl
  | nextFirst => rfl

theorem length_rxBytes (s : State) (frame : List Byte) (errs : Byte) : (rxBytes s frame errs).length = frame.length + 4 := by
  rw [rxBytes, List.length_append, Nat.add_comm]
  congr 1
  cases h : s.cfg.rxhdrOrder with
  | statusFirst => rfl
  | nextFirst => rfl

/-- Settles O40, by what a ring write leaves alone and what it leaves behind. -/
theorem storedFrameStandsInTheRing : Obligations.StoredFrameStandsInTheRing := by
  intro frame errs s t k domain fits h
  rw [exec_rx_of_stored domain fits] at h
  cases h
  refine ⟨fun apart => ?_, fun ⟨wf, _⟩ j b byte hit last => ?_⟩
  · refine read_writeBytes_of_ne (fun n hn => ?_) s.mem
    rw [Nat.zero_add]
    exact apart n (length_rxBytes s frame errs ▸ hn)
  · have byte : (rxBytes s frame errs)[j]? = some b := by
      rw [rxBytes_eq]
      exact byte
    obtain ⟨hj, rfl⟩ := List.getElem?_eq_some_iff.mp byte
    refine read_writeBytes_self j hj (by rwa [Nat.zero_add]) (fun j' later hj' => ?_) wf
    rw [Nat.zero_add]
    exact last j' later (length_rxBytes s frame errs ▸ hj')

/-! ## The ring over many operations (R246, R247) -/

theorem ringFormed_of_kept {s t : State} (ring : s.ringFormed) (pageStart : t.pageStart = s.pageStart)
    (pageStop : t.pageStop = s.pageStop) (boundPtr : t.boundPtr = s.boundPtr) (currPage : t.currPage = s.currPage) :
    t.ringFormed := by
  rwa [State.ringFormed, pageStart, pageStop, boundPtr, currPage]

/-- R246 for the frame that is stored. -/
theorem rxStore_ringFormed {frame : List Byte} {errs : Byte} {s : State} (ring : s.ringFormed)
    (fits : storesFrame frame errs s) : (rxStore frame errs s).ringFormed := by
  obtain ⟨_, _, room⟩ := fits
  obtain ⟨low, high, _⟩ := nextPage_in_ring ring (pagesFor_pos _) room
  obtain ⟨order, _, _, boundLow, boundHigh⟩ := ring
  exact ⟨order, low, high, boundLow, boundHigh⟩

/-- R246: only the host and the reset can end a well-formed ring. -/
theorem exec_ringFormed {i : Instr} {s t : State} (ring : s.ringFormed) (h : exec i s = .next t)
    (host : ∀ v, i ≠ .wrP0Pstart v ∧ i ≠ .wrP0Pstop v ∧ i ≠ .wrP0Bnry v ∧ i ≠ .wrP1Curr v)
    (noReset : ∀ content, i ≠ .hreset content) : t.ringFormed := by
  cases performed_of_exec h with
  | access _ access =>
    obtain ⟨_, _, pageStart, pageStop, boundPtr, currPage⟩ := access
    simp only [forall_and] at host
    obtain ⟨noStart, noStop, noBound, noCurr⟩ := host
    exact ringFormed_of_kept ring (pageStart.resolve_right fun ⟨v, is⟩ => noStart v is)
      (pageStop.resolve_right fun ⟨v, is⟩ => noStop v is) (boundPtr.resolve_right fun ⟨v, is⟩ => noBound v is)
      (currPage.resolve_right fun ⟨v, is⟩ => noCurr v is)
  | crWrite v _ =>
    rw [crStore_frame]
    exact ringFormed_of_kept ring rfl rfl rfl rfl
  | portRead _ _ _ | portWrite _ _ _ | complete _ _ _ => exact ringFormed_of_kept ring rfl rfl rfl rfl
  | delivery frame errs _ _ ends =>
    cases ends with
    | dropped _ | refused _ _ _ | overflowed _ _ _ => exact ringFormed_of_kept ring rfl rfl rfl rfl
    | stored fits => exact rxStore_ringFormed (s := opened s) ring fits
  | reset content operation => exact absurd operation (noReset content)

/-- Settles O44: an operation keeps the ring; and of the ends of a delivery past validation, the one stores and stays off
`bound_ptr`, the other counts. -/
theorem ringNeverFillsUp : Obligations.RingNeverFillsUp := by
  refine ⟨fun _ _ _ ring h host noReset => exec_ringFormed ring h host noReset,
    fun frame errs s t ring h => ⟨fun fits => ?_, ?_⟩⟩
  · cases delivered_of_exec_rx h with
    | stored _ =>
      obtain ⟨_, _, room⟩ := fits
      obtain ⟨_, _, apart⟩ := nextPage_in_ring ring (pagesFor_pos _) room
      exact apart
    | dropped silent =>
      rw [fits.1] at silent
      cases silent
    | refused _ bad strict =>
      obtain ⟨_, valid, _⟩ := fits
      simp [bad, strict] at valid
    | overflowed _ _ full =>
      obtain ⟨_, _, room⟩ := fits
      exact absurd full (Nat.not_le_of_lt room)
  · intro passes valid misfit
    cases delivered_of_exec_rx h with
    | stored fits => exact absurd fits misfit
    | dropped silent =>
      rw [passes] at silent
      cases silent
    | refused _ bad strict =>
      change errs = 0x00#8 ∨ errorsOk s.rcr = true at valid
      simp [bad, strict] at valid
    | overflowed _ _ _ => rfl

/-- R240: the next page is the current one moved forward, modulo the ring. -/
theorem nextPage_mod {s : State} (ring : s.ringFormed) {pages : Nat} (room : pages < ringSize s) (more : Nat) :
    ((nextPage s pages).toNat - s.pageStart.toNat + more) % ringSize s =
      (s.currPage.toNat - s.pageStart.toNat + (pages + more)) % ringSize s := by
  have size : ringSize s = s.pageStop.toNat - s.pageStart.toNat := rfl
  rw [toNat_nextPage ring room]
  obtain ⟨_, _, _, _, _⟩ := ring
  split
  · rw [← Nat.add_mod_right (s.currPage.toNat + pages - ringSize s - s.pageStart.toNat + more)]
    congr 1
    omega
  · congr 1
    omega

/-- Settles O45, by induction over the frames: each moves `curr_page` by its pages and keeps the ring. -/
theorem framesAdvanceTheRingByTheirPages : Obligations.FramesAdvanceTheRingByTheirPages := by
  intro frames s ring stores
  induction frames generalizing s with
  | nil => exact ⟨s, rfl, rfl⟩
  | cons f rest ih =>
    obtain ⟨frame, errs⟩ := f
    obtain ⟨domain, fits, further⟩ := stores
    have first := exec_rx_of_stored domain fits
    obtain ⟨t, run, pages⟩ := ih (irqUpdate (rxStore frame errs (opened s)))
      (rxStore_ringFormed (s := opened s) ring fits) (further _ first)
    refine ⟨t, ?_, pages.trans ?_⟩
    · rw [List.map_cons, runOps, first]
      exact run
    · rw [List.map_cons, List.sum_cons]
      exact nextPage_mod ring (pagesFor_lt_ringSize fits) _

end Sys2Proof.Machine
end

section
/-! # Completion of a transmission, reset and attach: proofs (spec/43_transmit.md, spec/70_reset_and_hazards.md) -/

namespace Sys2Proof.Machine

/-! ## Completion of a transmission (R275, R276) -/

theorem exec_txdone_of_allowed {outcome : Byte} {s : State} (busy : s.cr.txPacket = true)
    (allowed : outcomeAllowed s.tcr outcome = true) :
    exec (.txdone outcome) s = .next (irqUpdate (txReport outcome (opened s))) :=
  (if_neg (by simp [busy])).trans (if_neg (by simp [allowed]))

theorem exec_txdone_of_disallowed {outcome : Byte} {s : State} (busy : s.cr.txPacket = true)
    (disallowed : outcomeAllowed s.tcr outcome = false) : exec (.txdone outcome) s = .refused .outcomeNotAllowed :=
  (if_neg (by simp [busy])).trans (if_pos disallowed)

/-- R276, as the statements write it. -/
theorem outcomeAllowed_iff (tcr outcome : Byte) : outcomeAllowed tcr outcome = true ↔ outcome = 0x01#8 ∨
    tcr.extractLsb' 1 2 ≠ 0#2 ∧ outcome ∈ [0x04#8, 0x08#8, 0x10#8, 0x20#8, 0x40#8, 0x80#8] := by
  have seven : txOutcomes.contains outcome = true ↔
      outcome = 0x01#8 ∨ outcome ∈ [0x04#8, 0x08#8, 0x10#8, 0x20#8, 0x40#8, 0x80#8] := by
    rw [List.contains_iff_mem, txOutcomes, List.mem_cons]
  unfold outcomeAllowed
  split
  · next straight =>
    have straight : tcr.extractLsb' 1 2 = 0#2 := straight
    simp [straight, tsrTxOk]
  · next loopback =>
    have loopback : tcr.extractLsb' 1 2 ≠ 0#2 := loopback
    rw [seven, and_iff_right loopback]

/-- Over an idle transmitter the CR write 0x26 hands one frame to the backend (R206, R275). -/
theorem trigger_accepted {s : State} (idle : s.cr.txPacket = false) :
    ∃ u, exec (.wrCr (.byte 0x26#8)) s = .next u ∧ (sentFrames u.out).length = 1 := by
  have fresh : ((crStore 0x26#8 (opened s)).cr.txPacket && !(opened s).cr.txPacket) = true := by
    rw [crStore_txPacket_of_trigger (by decide), opened_cr, idle]
    rfl
  refine ⟨_, exec_of_writesCr_performed (.inl ⟨_, rfl, rfl⟩) (crPerformed_of_code (by decide) s), ?_⟩
  rw [irqUpdate_sentFrames]
  change (sentFrames (crStore 0x26#8 (opened s)).out).length = 1
  rw [crStore_sentFrames, if_pos fresh]
  rfl

/-- Settles O46: the report, and the trigger it makes room for. -/
theorem completionReportsTheOutcome : Obligations.CompletionReportsTheOutcome := by
  intro outcome s
  refine ⟨fun busy allowed => ?_, fun idle => if_pos idle, fun _ => rfl⟩
  have flags : (if outcome = 0x01#8 then s.isr ||| 0x02#8 else s.isr ||| 0x08#8) =
      s.isr ||| (if outcome = tsrTxOk then isrPktTx else isrTxErr) := (apply_ite (s.isr ||| ·) _ _ _).symm
  refine ⟨_, exec_txdone_of_allowed busy ((outcomeAllowed_iff s.tcr outcome).mpr allowed), ?_, trigger_accepted rfl⟩
  rw [flags]
  rfl

/-- Settles O47: such an outcome is not allowed. -/
theorem disallowedOutcomesAreRefused : Obligations.DisallowedOutcomesAreRefused := by
  intro outcome s busy failure reason
  refine exec_txdone_of_disallowed busy ?_
  rw [← Bool.not_eq_true, outcomeAllowed_iff]
  rintro (ok | ⟨loopback, listed⟩)
  · exact failure ok
  · obtain straight | unlisted := reason
    · exact loopback straight
    · exact unlisted listed

/-! ## The hard reset (R380 to R383) -/

/-- The array made of a list of bytes reads as the list, and as 0 beyond it (R383, log 5). -/
theorem read_ofBytes_eq_getD (bytes : List Byte) (k i : Nat) :
    Memory.read (Memory.ofBytes k bytes) (k + i) = bytes.getD i 0x00#8 := by
  induction bytes generalizing k i with
  | nil => rfl
  | cons b rest ih =>
    cases i with
    | zero => exact Memory.read_ofBytes k (b :: rest) 0 (Nat.zero_lt_succ _)
    | succ n =>
      rw [Memory.ofBytes, Memory.read_cons_of_ne b _ (by omega), show k + (n + 1) = k + 1 + n by omega, ih]
      rfl

theorem lineActive_masked (isr : Byte) : lineActive isr 0x00#8 = false :=
  (lineActive_eq_false_iff isr 0x00#8).mpr BitVec.and_zero

/-- With every interrupt masked an active line is let go (R343, R344). -/
theorem irqUpdate_of_masked {s : State} (masked : s.imr = 0x00#8) : irqUpdate s = { s with
    irqLine := false
    out := { s.out with events := s.out.events ++ if s.irqLine = true then [.irq false] else [] } } := by
  have events : irqEvents s.irqLine false = if s.irqLine = true then [.irq false] else [] := by
    cases s.irqLine with
    | false => rfl
    | true => rfl
  rw [irqUpdate, masked, lineActive_masked, events]

/-- Settles O48: the memory is the content cut to the array, and the line goes with IMR. -/
theorem hardResetZeroesTheRegisters : Obligations.HardResetZeroesTheRegisters := by
  intro content s
  refine ⟨irqUpdate (hardReset content (opened s)), rfl, fun k hk => ?_, ?_⟩
  · have cut : content.getD k 0x00#8 = (content.take s.cfg.memSize).getD k 0x00#8 := by
      rw [List.getD_eq_getElem?_getD, List.getD_eq_getElem?_getD, List.getElem?_take_of_lt hk]
    rw [cut, ← read_ofBytes_eq_getD _ 0, Nat.zero_add]
    rfl
  · rw [irqUpdate_of_masked rfl]
    rfl

/-! ## Attach and construction (R356, R381, R384) -/

theorem getElem_macromImage (c : Config) (i : Nat) (h : i < 32) : (macromImage c)[i] = macromByte c i :=
  Vector.getElem_ofFn h

/-- R36, where the address stands twice. -/
theorem macromByte_of_packed {c : Config} (packed : c.evenMac = true) (i : Fin 6) :
    macromByte c (2 * i.val) = c.macCfg[i.val] ∧ macromByte c (2 * i.val + 1) = c.macCfg[i.val] := by
  have first : 2 * i.val / 2 = i.val := by omega
  have second : (2 * i.val + 1) / 2 = i.val := by omega
  simp [macromByte, packed, first, second]

/-- R36, where the address stands once. -/
theorem macromByte_of_plain {c : Config} (plain : c.evenMac = false) (i : Fin 6) :
    macromByte c i.val = c.macCfg[i.val] := by
  simp [macromByte, plain]

/-- R36, beyond the address. -/
theorem macromByte_of_beyond {c : Config} {i : Nat} (beyond : (if c.evenMac then 12 else 6) ≤ i) :
    macromByte c i = c.romFill := by
  refine dif_neg ?_
  split at beyond
  · next packed =>
    rw [if_pos packed]
    omega
  · next plain =>
    rw [if_neg plain]
    omega

/-- Settles O49: nothing is enabled, running, moving or pending after attach, and the ROM image is that of R36. -/
theorem attachedCoreMeetsTheInvariants : Obligations.AttachedCoreMeetsTheInvariants := by
  refine ⟨rfl, fun c => ⟨⟨rfl, rfl⟩, (lineActive_masked _).symm, ?reserved, ⟨nofun, nofun, fun _ => rfl, fun _ => rfl⟩,
    ⟨nofun, .inl rfl, fun _ => rfl⟩, rfl, ⟨rfl, rfl⟩, rfl, rfl, fun i packed => ?packed, fun i plain => ?plain,
    fun i beyond => ?beyond⟩⟩
  case reserved =>
    refine ⟨BitVec.zero_and, BitVec.zero_and, BitVec.zero_and, BitVec.zero_and, BitVec.zero_and, ?_, rfl, rfl, rfl⟩
    change (if c.powerupStop then 0x80#8 else 0x00#8) &&& 0x20#8 = 0x00#8
    split
    · rfl
    · rfl
  case packed =>
    obtain ⟨first, second⟩ := macromByte_of_packed packed i
    exact ⟨(getElem_macromImage c _ _).trans first, (getElem_macromImage c _ _).trans second⟩
  case plain => exact (getElem_macromImage c _ _).trans (macromByte_of_plain plain i)
  case beyond => exact (getElem_macromImage c _ _).trans (macromByte_of_beyond beyond)

/-- Settles O60: the conditions of R8 are those of a valid configuration, and a state carries one. -/
theorem invalidConfigurationsHaveNoInstance : Obligations.InvalidConfigurationsHaveNoInstance := by
  refine ⟨fun p => ?_, fun s => (params_valid_iff s.cfg.toParams).mp s.cfg.isValid⟩
  split
  · next conditions => exact ⟨_, construct_of_valid ((params_valid_iff p).mpr conditions), rfl, rfl⟩
  · next invalid => exact construct_of_invalid fun valid => invalid ((params_valid_iff p).mp valid)

end Sys2Proof.Machine
end
